-- ==== Sys2Proof/Word.lean ====
section
/-! DEFINITION. Bytes of the frames and the plainest arithmetic on them (R153, R156, R168). -/

namespace Sys2Proof

/-- One byte of a frame (R153). -/
abbrev Byte := BitVec 8

/-- The byte that carries a number: the number modulo 256. -/
def byte (n : Nat) : Byte := BitVec.ofNat 8 n

/-- The code of a yes/no, set/clear or flag field (R169). -/
def flagByte (b : Bool) : Byte := if b then 1 else 0

/-- A two-byte field, most significant byte first (R153, R168). -/
def twoBytes (n : Nat) : List Byte := [byte (n / 256), byte n]

/-- The sum of bytes modulo 256, which is 0 for a well-formed frame (R156, R158, R168). -/
def byteSum : List Byte → Byte
  | [] => 0
  | b :: bs => b + byteSum bs

end Sys2Proof
end

