-- ==== Sys2Proof/Config.lean ====
section
/-! DEFINITION. The constants the manual fixes for the part, and the one value it leaves open. -/

namespace Sys2Proof.Config

/-- The core clock, 32 MHz (R49). -/
def coreClockHz : Nat := 32000000

/-- The prescale of a code: 1, 2, 4, … 128 core clocks to a count (R49). -/
def prescale (code : Nat) : Nat := 2 ^ code

/-- Core clock periods that a period of `counts` lasts at a prescale code (R49). -/
def periodClocks (counts code : Nat) : Nat := counts * prescale code

/-- Core clock periods of one half of a RUNNING carrier (R99). -/
def carrierHalfClocks (divider : Nat) : Nat := divider + 1

/-- How long a fault input must hold a level to be seen, in nanoseconds (R104). -/
def faultFilterNs : Nat := 250

/-- The tick of the Session Table, in milliseconds (R130). -/
def tickMs : Nat := 10

/-- The shortest low pulse on RSTn that is taken, in nanoseconds (R172). -/
def rstnMinNs : Nat := 1000

/-- The power-on level of the supply, in millivolts (R106). -/
def powerOnMv : Nat := 2750

/-- The hysteresis of the supply monitor, in millivolts (R106). -/
def hysteresisMv : Nat := 100

/-- The highest supply of the part's range, in millivolts (R172). -/
def supplyMaxMv : Nat := 5500

/-- The falling threshold of each supply threshold code, in millivolts (R106). -/
def thresholdMv (code : Fin 8) : Nat :=
  match code with
  | 0 => 2700 | 1 => 2850 | 2 => 2950 | 3 => 3050
  | 4 => 4150 | 5 => 4350 | 6 => 4500 | 7 => 4650

/-- The hold of a lapsed session is this many keep-alive intervals (R131). -/
def holdIntervals : Nat := 4

/-- FREE VALUE (log 5). The bytes the part shifts out after the status byte of an ignored transaction.
R168 states the bytes of every other kind of transaction and none for this one. -/
opaque freeByte : Nat → Byte

end Sys2Proof.Config
end

