-- ==== Sys2Proof/Syntax.lean ====
section
/-! DEFINITION. The commands of the block: one constructor of `Instr` for each row of
spec/opcode_table.json, with the names its operands use. -/

namespace Sys2Proof

/-- A host link (00_scope, Lines of the part). -/
inductive Link where
  | a | b
  deriving DecidableEq, Repr

/-- A carrier generator (R99). -/
inductive Carrier where
  | ca | cb
  deriving DecidableEq, Repr

/-- A fault input (R104). -/
inductive FaultLine where
  | flt0 | flt1
  deriving DecidableEq, Repr

/-- The level on a fault input (R104). -/
inductive LineLevel where
  | low | high
  deriving DecidableEq, Repr

/-- A lease number, L0 to L15 (R1). -/
abbrev LeaseNo := Fin 16
/-- A session number, S0 to S7 (R123). -/
abbrev SessionNo := Fin 8
/-- A timebase number, TB0 to TB3 (R46). -/
abbrev TimebaseNo := Fin 4
/-- A channel number, CH0 to CH11 (R8). -/
abbrev ChannelNo := Fin 12
/-- A pin number, P0 to P23 (R94). -/
abbrev PinNo := Fin 24

/-- How much of a transaction a command stands for. A transaction runs from chip select falling to
chip select rising (R153), and other happenings may be taken between its parts (R154, R155, R159,
R166); `whole` is a transaction with none between. Bytes are the whole bytes the host sends. DEDUCED, safe for
the tables, log 10. -/
inductive Moment where
  /-- the whole transaction: its first byte and the rest -/
  | whole (first : Byte) (rest : List Byte)
  /-- chip select falls -/
  | select
  /-- the first whole byte, which selects the kind -/
  | first (b : Byte)
  /-- further whole bytes -/
  | more (bs : List Byte)
  /-- chip select rises -/
  | rise
  deriving DecidableEq, Repr

/-- What brings a full reset (R106, R172). -/
inductive ResetCause where
  /-- RSTn held low for so many nanoseconds -/
  | rstn (lowNs : Nat)
  /-- power-on -/
  | powerOn
  /-- the supply at a level below the power-on level -/
  | supply (mv : Nat)
  deriving DecidableEq, Repr

/-- The commands: the part's steps, each whole (95_what_each_step_holds). The executor's rows carry no
operand: the link is the executor's choice (R162) and code and parameters stand in that link's slot,
as COMMAND_FRAME left them (R155, R156). DEDUCED, safe, log 9. -/
inductive Instr where
  /-- OPEN_SESSION (R125, R126) -/
  | openSession
  /-- RENEW (R129) -/
  | renew
  /-- CLOSE_SESSION (R135) -/
  | closeSession
  /-- CLAIM (R24, R25) -/
  | claim
  /-- AMEND (R68, R69) -/
  | amend
  /-- RETIRE (R77, R78) -/
  | retire
  /-- CLEAR_TRIP (R113, R115) -/
  | clearTrip
  /-- RETUNE (R60, R63) -/
  | retune
  /-- ADOPT (R137, R138) -/
  | adopt
  /-- READ_NOTICES (R149) -/
  | readNotices
  /-- READ_FAULTS (R117, R118) -/
  | readFaults
  /-- QUERY_SESSION (R142) -/
  | querySession
  /-- QUERY_LEASE (R19, R20) -/
  | queryLease
  /-- QUERY_TIMEBASE (R66) -/
  | queryTimebase
  /-- FIND_BY_PIN (R22) -/
  | findByPin
  /-- LIST_LEASES (R21) -/
  | listLeases
  /-- SET_PIN_REST (R97) -/
  | setPinRest
  /-- SET_CARRIER (R101) -/
  | setCarrier
  /-- SET_FAULT_EDGE (R119, R120) -/
  | setFaultEdge
  /-- SET_SUPPLY_LEVEL (R121) -/
  | setSupplyLevel
  /-- HALT_ALL (R108) -/
  | haltAll
  /-- RELEASE_HALT (R109) -/
  | releaseHalt
  /-- BAD_COMMAND: the executor takes a frame whose code names no command (R163) -/
  | badCommand
  /-- COMMAND_FRAME (R156, R157) -/
  | commandFrame (l : Link) (m : Moment)
  /-- FETCH (R158, R159) -/
  | fetch (l : Link) (m : Moment)
  /-- CLEAR_LINK (R160) -/
  | clearLink (l : Link) (m : Moment)
  /-- IGNORED_TRANSACTION (R153) -/
  | ignoredTransaction (l : Link) (m : Moment)
  /-- COUNT: one prescaled count of a timebase (R50) -/
  | count (tb : TimebaseNo)
  /-- BOUNDARY: the count after the counter held 0 (R50, R53) -/
  | boundary (tb : TimebaseNo)
  /-- START_BOUNDARY (R51) -/
  | startBoundary (tb : TimebaseNo)
  /-- CARRIER_EDGE (R99) -/
  | carrierEdge (c : Carrier)
  /-- TICK: the timer happenings of every session, or of the one named (R130) -/
  | tick (who : Option SessionNo)
  /-- LAPSE: the timer happening that brings a session's remaining time to 0 (R131) -/
  | lapse (n : SessionNo)
  /-- HOLD_EXPIRY: the timer happening that brings a session's hold remaining to 0 (R134) -/
  | holdExpiry (n : SessionNo)
  /-- FAULT_INPUT_CHANGE: the board moves a fault input to a level (R104) -/
  | faultInputChange (i : FaultLine) (level : LineLevel)
  /-- FAULT_EDGE: the filter passes a change to the asserted level (R105) -/
  | faultEdge (i : FaultLine)
  /-- FAULT_RELEASE: the filter passes a change away from the asserted level (R105) -/
  | faultRelease (i : FaultLine)
  /-- SUPPLY_FALL: the supply falls to a level in millivolts (R107) -/
  | supplyFall (mv : Nat)
  /-- SUPPLY_RISE: the supply rises to a level in millivolts (R107) -/
  | supplyRise (mv : Nat)
  /-- FULL_RESET (R23, R67, R85, R102, R122, R143, R166) -/
  | fullReset (cause : ResetCause)
  /-- RESET_RELEASE (R122) -/
  | resetRelease
  deriving DecidableEq, Repr

end Sys2Proof
end

