-- ==== Sys2Proof/Decode.lean ====
section
/-! DEFINITION. What a word of the table spells, and which kind of transaction a first byte selects.
No row of spec/opcode_table.json gives bits, so no word spells a command. -/

namespace Sys2Proof

/-- The kinds of transaction (R153). -/
inductive TransactionRow where
  | frame | fetch | clear | ignored
  deriving DecidableEq, Repr

/-- The kind of transaction the first byte from the host selects (R153). -/
def transactionRow (first : Byte) : TransactionRow :=
  if 0x01 ≤ first.toNat ∧ first.toNat ≤ 0x3F then .frame
  else if first = 0x80 then .fetch
  else if first = 0xC0 then .clear
  else .ignored

/-- The command a word spells by the table's bits: the table gives bits to no row, so none. -/
def decodeTableWord (_nbits _w : Nat) : Option Instr := none

end Sys2Proof
end

