-- ==== Sys2Proof/Machine/State.lean ====
section
/-! DEFINITION. The state of the PL-24: the records of its nine kinds of block as the manual lays them
out, the lines the board and the hosts drive, and the model's own queue and free-value counter. A field
that the manual makes absent in some state of its record stands inside the constructor that has it. -/

namespace Sys2Proof.Machine

/-! ## Levels, modes and sets (R169) -/

/-- A level of a pin: safe, rest or current (R90, R94). -/
inductive Level where
  | low | high | float
  deriving DecidableEq, Repr

/-- The polarity of a binding (R7, R90). -/
inductive Polarity where
  | activeHigh | activeLow
  deriving DecidableEq, Repr

/-- The carrier mode of a binding (R7, R91). -/
inductive CarrierMode where
  | mark | space
  deriving DecidableEq, Repr

/-- The drive mode of a binding's pins (R7, R90). -/
inductive DriveMode where
  | pushPull | openDrain
  deriving DecidableEq, Repr

/-- The role of a channel, engine or pin within its binding (R8, R86, R94). -/
inductive Role where
  | primary | complement
  deriving DecidableEq, Repr

/-- The selected edge of a fault input (R103). -/
inductive Edge where
  | falling | rising
  deriving DecidableEq, Repr

/-- The class of a session (R123). -/
inductive SessionClass where
  | ordinary | supervisor
  deriving DecidableEq, Repr

/-- A fault subscription: a subset of FLT0 and FLT1 (R2). -/
structure FaultSet where
  flt0 : Bool
  flt1 : Bool
  deriving DecidableEq, Repr

/-- A set of trip sources or trip causes (R2, R169). -/
structure SourceSet where
  flt0 : Bool
  flt1 : Bool
  supply : Bool
  halt : Bool
  lapse : Bool
  deriving DecidableEq, Repr

/-- One trip source or cause (R110). -/
inductive Source where
  | flt0 | flt1 | supply | halt | lapse
  deriving DecidableEq, Repr

/-- A set of notice kinds (R144). -/
structure KindSet where
  started : Bool
  committed : Bool
  retuned : Bool
  tripped : Bool
  retired : Bool
  adopted : Bool
  deriving DecidableEq, Repr

/-! ## Leases (Section 1) -/

/-- The five settings AMEND may change (R4, R68, R86). -/
structure Settings where
  duty : Nat
  polarity : Polarity
  deadBand : Nat
  gate : Option Carrier
  mode : CarrierMode
  deriving DecidableEq, Repr

/-- What a complementary binding holds beyond a single one (R7): the three come together. -/
structure Complement where
  channel : ChannelNo
  pin : PinNo
  safe : Level
  deriving DecidableEq, Repr

/-- A binding record (R7). `complement = none` is a single binding. -/
structure Binding where
  channel : ChannelNo
  pin : PinNo
  active : Settings
  drive : DriveMode
  safe : Level
  complement : Option Complement
  deriving DecidableEq, Repr

/-- A retire plan (R2, R4). -/
inductive RetirePlan where
  | atBoundary
  | ramp (step : Nat)
  deriving DecidableEq, Repr

/-- The state of a non-FREE lease with the fields present in that state alone (R2, R3, R4). -/
inductive Phase where
  | armed
  | running
  /-- AMEND_PENDING with its staged change, one entry for each binding -/
  | amendPending (staged : List Settings)
  | draining (plan : RetirePlan)
  | tripped (causes : SourceSet) (retirePending : Bool)
  deriving DecidableEq, Repr

/-- A non-FREE lease record (R2). -/
structure LeaseRecord where
  holder : SessionNo
  timebase : TimebaseNo
  subscription : FaultSet
  bindings : List Binding
  generation : BitVec 8
  phase : Phase
  deriving DecidableEq, Repr

/-- A lease record: `none` is FREE, which has a number and a state alone (R1). -/
abbrev Lease := Option LeaseRecord

/-- A binding of a lease and a role in it, as the channel map, the engines and the pin table name it
(R8, R86, R94). -/
structure Place where
  lease : LeaseNo
  index : Nat
  role : Role
  deriving DecidableEq, Repr

/-! ## Timebases (Section 3) -/

/-- What a timebase holds while it is RUNNING or RETUNING (R46). -/
structure TimebaseRun where
  period : Nat
  staged : Option Nat
  holder : LeaseNo
  startPending : Bool
  deriving DecidableEq, Repr

/-- A timebase record (R46). `run = none` is IDLE; a staged period makes it RETUNING. -/
structure Timebase where
  prescale : Fin 8
  counter : Nat
  refCount : Nat
  run : Option TimebaseRun
  deriving DecidableEq, Repr

/-! ## Channel engines, pins and carriers (Section 5) -/

/-- The edges of a complement window in counter values (R92). The upper edge may lie below 0. -/
structure Edges where
  lower : Nat
  upper : Int
  deriving DecidableEq, Repr

/-- The output of a generating engine (R86): in or out of window, with the carrier level where a gate
applies. -/
structure EngineOutput where
  inWindow : Bool
  carrier : Option Bool
  deriving DecidableEq, Repr

/-- What an engine in use holds (R86). -/
structure EngineUse where
  place : Place
  active : Settings
  staged : Option Settings
  deriving DecidableEq, Repr

/-- A channel engine (R86). The dead-band state is that of a generating engine of role COMPLEMENT. -/
inductive Engine where
  | unused
  | held (use : EngineUse)
  | generating (use : EngineUse) (edges : Option Edges) (output : EngineOutput)
  deriving DecidableEq, Repr

/-- The owner of a pin with its drive mode (R94): both are present while the pin is owned. -/
structure PinOwner where
  place : Place
  drive : DriveMode
  deriving DecidableEq, Repr

/-- A pin table entry (R94). -/
structure PinEntry where
  owner : Option PinOwner
  rest : Level
  level : Level
  deriving DecidableEq, Repr

/-- A carrier generator (R99). -/
structure CarrierUnit where
  divider : Nat
  high : Bool
  inUse : Nat
  deriving DecidableEq, Repr

/-! ## Trip Unit (Section 6) -/

/-- A fault input (R103, R104). `level` is what the board drives; the filter runs while it differs from
`seen`. -/
structure FaultInput where
  edge : Edge
  level : LineLevel
  seen : LineLevel
  asserted : Bool
  latch : Bool
  deriving DecidableEq, Repr

/-- The Trip Unit (R103). -/
structure TripUnit where
  flt0 : FaultInput
  flt1 : FaultInput
  threshold : Fin 8
  supplyLow : Bool
  supplyLatch : Bool
  haltLatch : Bool
  deriving DecidableEq, Repr

/-! ## Sessions (Sections 7 and 8) -/

/-- OPEN with its remaining time, or LAPSED with its hold remaining (R123). -/
inductive SessionStatus where
  | opened (remaining : Nat)
  | lapsed (hold : Nat)
  deriving DecidableEq, Repr

/-- A session record that is not FREE (R123). `notices` gives each lease number its kinds; no kind is no
entry (R144). -/
structure SessionRecord where
  cls : SessionClass
  link : Link
  interval : Nat
  status : SessionStatus
  quota : Nat
  mask : KindSet
  notices : Vector KindSet 16
  deriving DecidableEq, Repr

/-- A session record: `none` is FREE (R123). -/
abbrev Session := Option SessionRecord

/-! ## Host links (Section 9) -/

/-- The status codes of responses (R165). -/
inductive Status where
  | good | frameFault | badCommand | badLength | badArgument | noSession | wrongLink | lapsed
  | notHolder | notSupervisor | supervisorExists | noSessionSpace | noLeaseSpace | quota | noChannel
  | pinTaken | periodConflict | dutyRange | badSafe | carrierOff | inUse | faultActive | wrongState
  | notPeriodHolder
  deriving DecidableEq, Repr

/-- A held command frame: code and parameters; the parameter length is theirs (R155). -/
structure Frame where
  code : Byte
  params : List Byte
  deriving DecidableEq, Repr

/-- A held response: status, detail and data; the data length is theirs (R155). -/
structure Response where
  status : Status
  detail : Byte
  data : List Byte
  deriving DecidableEq, Repr

/-- A link slot with what it holds in each state (R155). -/
inductive Slot where
  | idle
  /-- FILLING, with the bytes received so far -/
  | filling (received : List Byte)
  | queued (frame : Frame)
  | done (response : Response)
  deriving DecidableEq, Repr

/-- A transaction in progress (R153 to R160). -/
inductive Transaction where
  /-- chip select has fallen, with the status byte as it then stood (R154) -/
  | selected (status : Byte)
  /-- a command frame that fills the slot (R156) -/
  | frame
  /-- a command frame refused whole (R157) -/
  | refusedFrame
  /-- a FETCH; whether the slot was DONE when its 80h was received (R158, R159) -/
  | fetch (live : Bool)
  /-- a CLEAR LINK, with its drop-flag byte once received (R160) -/
  | clear (flag : Option Byte)
  /-- ignored to its chip select rising (R153, R166), with the status byte while it is still to be sent as the
  transaction's first byte (R153, R168) -/
  | ignored (due : Option Byte)
  deriving DecidableEq, Repr

/-- A host link (R155), with its attention line (R151), the transaction in progress and the bytes the
part has shifted out in the last transaction (R153). -/
structure LinkPort where
  slot : Slot
  refused : Bool
  attention : Bool
  transaction : Option Transaction
  out : List Byte
  deriving DecidableEq, Repr

/-! ## The whole part -/

/-- The state of the part. `supplyMv` is the supply in millivolts, `rstn` the level of RSTn (R172). `pending` and `freeCount` are the
model's own: the commands that wait, first in first out (log 1), and the index of the next free byte
(log 5). -/
@[ext]
structure State where
  leases : Vector Lease 16
  channels : Vector (Option Place) 12
  timebases : Vector Timebase 4
  engines : Vector Engine 12
  pins : Vector PinEntry 24
  carrierA : CarrierUnit
  carrierB : CarrierUnit
  trip : TripUnit
  supplyMv : Nat
  sessions : Vector Session 8
  linkA : LinkPort
  linkB : LinkPort
  lastServed : Link
  rstn : LineLevel
  resetHeld : Bool
  freeCount : Nat
  pending : List Instr
  deriving DecidableEq, Repr

/-- Reasons a step stops. The manual stops the part nowhere: a command it turns away gets a response with
a status, so no command raises a fault and the type has no constructor. -/
inductive Fault where
  deriving DecidableEq, Repr

/-- Reasons a command has no meaning. -/
inductive Refusal where
  /-- raised by an arm of `exec` whose command has no meaning yet; no arm raises it. Safe. -/
  | notModelled (mnemonic : String)
  deriving DecidableEq, Repr

/-- What a command answers. -/
abbrev Result := Host.Outcome State Fault Refusal

/-! ## Reset values -/

/-- A timebase after a full reset (R67). -/
def Timebase.reset : Timebase := { prescale := 0, counter := 0, refCount := 0, run := none }

/-- A pin table entry after a full reset (R102). -/
def PinEntry.reset : PinEntry := { owner := none, rest := .float, level := .float }

/-- A carrier after a full reset (R102). -/
def CarrierUnit.reset : CarrierUnit := { divider := 0, high := false, inUse := 0 }

/-- A fault input after the release of a full reset with the input at a level: the edge is FALLING, the
seen level is the input's, and an input found LOW is asserted with its latch set (R122). -/
def FaultInput.seeded (level : LineLevel) : FaultInput :=
  { edge := .falling, level := level, seen := level, asserted := level = .low, latch := level = .low }

/-- The Trip Unit after the release of a full reset (R122). -/
def TripUnit.seeded (level0 level1 : LineLevel) : TripUnit :=
  { flt0 := FaultInput.seeded level0, flt1 := FaultInput.seeded level1, threshold := 0,
    supplyLow := false, supplyLatch := false, haltLatch := false }

/-- A link after the release of a full reset (R166), its chip select high, with no transaction in progress (DESIGN
CHOICE, unsafe, log 15). -/
def LinkPort.reset : LinkPort :=
  { slot := .idle, refused := false, attention := false, transaction := none, out := [] }

/-- The part right after the release of a full reset (R23, R67, R85, R102, R122, R143, R166), both fault
inputs at HIGH (DESIGN CHOICE, unsafe, log 2), the supply at 3300 mV (DESIGN CHOICE, unsafe, log 3), RSTn high
and no reset held (DESIGN CHOICE, log 4), both chip selects high, so that no transaction the reset held off is in
progress (DESIGN CHOICE, unsafe, log 15), the free-value counter at 0 (DESIGN CHOICE, safe, log 5) and no command
waiting (DESIGN CHOICE, safe, log 1). -/
def State.reset : State :=
  { leases := Vector.replicate 16 none
    channels := Vector.replicate 12 none
    timebases := Vector.replicate 4 Timebase.reset
    engines := Vector.replicate 12 .unused
    pins := Vector.replicate 24 PinEntry.reset
    carrierA := CarrierUnit.reset
    carrierB := CarrierUnit.reset
    trip := TripUnit.seeded .high .high
    supplyMv := 3300
    sessions := Vector.replicate 8 none
    linkA := LinkPort.reset
    linkB := LinkPort.reset
    lastServed := .b
    rstn := .high
    resetHeld := false
    freeCount := 0
    pending := [] }

end Sys2Proof.Machine
end

