-- ==== Sys2Proof/Machine/Flags.lean ====
section
/-! DEFINITION. Sets and flags: the operations on sets of sources and kinds, the codes of enumerated
fields and sets (R169), the latches as a set, and the link status byte (R154, R168). -/

namespace Sys2Proof.Machine

/-- Bit `k` of a received byte's number. -/
def bitAt (n k : Nat) : Bool := n / 2 ^ k % 2 = 1

/-! ## Sets -/

/-- The empty set of kinds. -/
def KindSet.empty : KindSet :=
  { started := false, committed := false, retuned := false, tripped := false, retired := false,
    adopted := false }

/-- Kinds of either set (R145: a kind joins the entry). -/
def KindSet.union (x y : KindSet) : KindSet :=
  { started := x.started || y.started, committed := x.committed || y.committed,
    retuned := x.retuned || y.retuned, tripped := x.tripped || y.tripped,
    retired := x.retired || y.retired, adopted := x.adopted || y.adopted }

/-- Kinds of both sets (R145: a kind not in the mask is not recorded). -/
def KindSet.inter (x y : KindSet) : KindSet :=
  { started := x.started && y.started, committed := x.committed && y.committed,
    retuned := x.retuned && y.retuned, tripped := x.tripped && y.tripped,
    retired := x.retired && y.retired, adopted := x.adopted && y.adopted }

/-- The set of kinds as a byte (R169). -/
def KindSet.toByte (x : KindSet) : Byte :=
  byte (x.started.toNat + 2 * x.committed.toNat + 4 * x.retuned.toNat + 8 * x.tripped.toNat
    + 16 * x.retired.toNat + 32 * x.adopted.toNat)

/-- A received notice mask, which may hold bits 0 to 5 alone (R169). -/
def KindSet.ofNat (n : Nat) : Option KindSet :=
  if n < 64 then
    some { started := bitAt n 0, committed := bitAt n 1, retuned := bitAt n 2, tripped := bitAt n 3,
           retired := bitAt n 4, adopted := bitAt n 5 }
  else none

/-- The empty set of sources. -/
def SourceSet.empty : SourceSet :=
  { flt0 := false, flt1 := false, supply := false, halt := false, lapse := false }

/-- Whether a source is in a set. -/
def SourceSet.has (x : SourceSet) : Source → Bool
  | .flt0 => x.flt0
  | .flt1 => x.flt1
  | .supply => x.supply
  | .halt => x.halt
  | .lapse => x.lapse

/-- A set with a source added (R3, R111). -/
def SourceSet.add (x : SourceSet) : Source → SourceSet
  | .flt0 => { x with flt0 := true }
  | .flt1 => { x with flt1 := true }
  | .supply => { x with supply := true }
  | .halt => { x with halt := true }
  | .lapse => { x with lapse := true }

/-- Sources of both sets. -/
def SourceSet.inter (x y : SourceSet) : SourceSet :=
  { flt0 := x.flt0 && y.flt0, flt1 := x.flt1 && y.flt1, supply := x.supply && y.supply,
    halt := x.halt && y.halt, lapse := x.lapse && y.lapse }

/-- Sources of the first set that are not in the second. -/
def SourceSet.diff (x y : SourceSet) : SourceSet :=
  { flt0 := x.flt0 && !y.flt0, flt1 := x.flt1 && !y.flt1, supply := x.supply && !y.supply,
    halt := x.halt && !y.halt, lapse := x.lapse && !y.lapse }

/-- The set of sources as a byte (R169). -/
def SourceSet.toByte (x : SourceSet) : Byte :=
  byte (x.flt0.toNat + 2 * x.flt1.toNat + 4 * x.supply.toNat + 8 * x.halt.toNat + 16 * x.lapse.toNat)

/-- A received clear mask of READ FAULTS, which may hold bits 0 to 2 alone (R117, R169). -/
def SourceSet.ofClearMask (n : Nat) : Option SourceSet :=
  if n < 8 then
    some { flt0 := bitAt n 0, flt1 := bitAt n 1, supply := bitAt n 2, halt := false, lapse := false }
  else none

/-- Whether a fault subscription holds an input (R2). -/
def FaultSet.has (x : FaultSet) : FaultLine → Bool
  | .flt0 => x.flt0
  | .flt1 => x.flt1

/-- A fault subscription as a byte (R169). -/
def FaultSet.toByte (x : FaultSet) : Byte := byte (x.flt0.toNat + 2 * x.flt1.toNat)

/-- A received fault subscription, which may hold bits 0 and 1 alone (R26, R169). -/
def FaultSet.ofNat (n : Nat) : Option FaultSet :=
  if n < 4 then some { flt0 := bitAt n 0, flt1 := bitAt n 1 } else none

/-! ## Codes of enumerated fields (R169) -/

/-- Code of a level. -/
def Level.code : Level → Byte
  | .low => 0
  | .high => 1
  | .float => 2

/-- The level of a code; 3 and above are not codes. -/
def Level.ofCode : Nat → Option Level
  | 0 => some .low
  | 1 => some .high
  | 2 => some .float
  | _ => none

/-- Code of a link. -/
def linkCode : Link → Byte
  | .a => 0
  | .b => 1

/-- Code of a session class. -/
def SessionClass.code : SessionClass → Byte
  | .ordinary => 0
  | .supervisor => 1

/-- The session class of a code. -/
def SessionClass.ofCode : Nat → Option SessionClass
  | 0 => some .ordinary
  | 1 => some .supervisor
  | _ => none

/-- Code of a session's state. -/
def SessionStatus.code : SessionStatus → Byte
  | .opened _ => 1
  | .lapsed _ => 2

/-- Code of a role. -/
def Role.code : Role → Byte
  | .primary => 0
  | .complement => 1

/-- Code of an edge. -/
def Edge.code : Edge → Byte
  | .falling => 0
  | .rising => 1

/-- The edge of a code. -/
def Edge.ofCode : Nat → Option Edge
  | 0 => some .falling
  | 1 => some .rising
  | _ => none

/-- The fault input of a code. -/
def faultLineOfCode : Nat → Option FaultLine
  | 0 => some .flt0
  | 1 => some .flt1
  | _ => none

/-- The carrier of a SET CARRIER code. -/
def carrierOfCode : Nat → Option Carrier
  | 1 => some .ca
  | 2 => some .cb
  | _ => none

/-- Code of a lease's phase, 1 to 5. -/
def Phase.code : Phase → Byte
  | .armed => 1
  | .running => 2
  | .amendPending _ => 3
  | .draining _ => 4
  | .tripped _ _ => 5

/-- Code of a lease's state, FREE included. -/
def leaseCode : Lease → Byte
  | none => 0
  | some r => r.phase.code

/-- Code of a timebase's state: IDLE, RUNNING, RETUNING. -/
def Timebase.code (t : Timebase) : Byte :=
  match t.run with
  | none => 0
  | some r => if r.staged.isSome then 2 else 1

/-- Code of a status (R165). -/
def Status.code : Status → Byte
  | .good => 0x00
  | .frameFault => 0x01
  | .badCommand => 0x02
  | .badLength => 0x03
  | .badArgument => 0x04
  | .noSession => 0x05
  | .wrongLink => 0x06
  | .lapsed => 0x07
  | .notHolder => 0x08
  | .notSupervisor => 0x09
  | .supervisorExists => 0x0A
  | .noSessionSpace => 0x0B
  | .noLeaseSpace => 0x0C
  | .quota => 0x0D
  | .noChannel => 0x0E
  | .pinTaken => 0x0F
  | .periodConflict => 0x10
  | .dutyRange => 0x11
  | .badSafe => 0x12
  | .carrierOff => 0x13
  | .inUse => 0x14
  | .faultActive => 0x15
  | .wrongState => 0x16
  | .notPeriodHolder => 0x17

/-- Code of a slot's state (R168). -/
def Slot.code : Slot → Nat
  | .idle => 0
  | .filling _ => 1
  | .queued _ => 2
  | .done _ => 3

/-- Whether a slot is DONE. -/
def Slot.isDone : Slot → Bool
  | .done _ => true
  | .idle => false
  | .filling _ => false
  | .queued _ => false

/-! ## Latches, asserted sources and the status byte -/

/-- The asserted level of an edge selection (R104). -/
def Edge.assertedLevel : Edge → LineLevel
  | .falling => .low
  | .rising => .high

/-- The latches that are set (R103). -/
def TripUnit.latches (t : TripUnit) : SourceSet :=
  { flt0 := t.flt0.latch, flt1 := t.flt1.latch, supply := t.supplyLatch, halt := t.haltLatch,
    lapse := false }

/-- The sources that are asserted (R103, R117). -/
def TripUnit.assertedSources (t : TripUnit) : SourceSet :=
  { flt0 := t.flt0.asserted, flt1 := t.flt1.asserted, supply := t.supplyLow, halt := t.haltLatch,
    lapse := false }

/-- The any-trip-latch bit (R103, R154). -/
def TripUnit.anyLatch (t : TripUnit) : Bool :=
  t.flt0.latch || t.flt1.latch || t.supplyLatch || t.haltLatch

/-- Whether a notice set has an entry (R144). -/
def SessionRecord.hasNotice (r : SessionRecord) : Bool :=
  (List.finRange 16).any fun n => decide (r.notices[n] ≠ KindSet.empty)

/-- The notice-pending bit of a link: some OPEN or LAPSED session of it has a non-empty set (R151, R154). -/
def State.noticePending (s : State) (l : Link) : Bool :=
  (List.finRange 8).any fun n =>
    match s.sessions[n] with
    | none => false
    | some r => decide (r.link = l) && r.hasNotice

/-- The record of a link. -/
def State.link (s : State) : Link → LinkPort
  | .a => s.linkA
  | .b => s.linkB

/-- The link status byte as it stands (R154, R168). -/
def State.statusByte (s : State) (l : Link) : Byte :=
  byte ((s.link l).slot.code + 4 * (s.noticePending l).toNat + 8 * (s.link l).refused.toNat
    + 16 * s.trip.anyLatch.toNat)

end Sys2Proof.Machine
end

