-- ==== Sys2Proof/Machine/Ops.lean ====
section
/-! DEFINITION. The named operations over the tables: reading and writing records, the counts that follow
the lease records, notices, discarding a stage, teardown, trips, lapse and closing of a session. Each
acts on every record it reaches at once, since the manual gives no order among them (R16, R53, R110). DEDUCED,
safe, log 12. -/

namespace Sys2Proof.Machine

/-! ## Tables -/

/-- A table with each entry replaced by a function of its number and value. -/
def mapTable {α β : Type} {n : Nat} (f : Fin n → α → β) (t : Vector α n) : Vector β n :=
  Vector.ofFn fun i => f i t[i]

/-- A table with one entry replaced. -/
def putAt {α : Type} {n : Nat} (t : Vector α n) (i : Fin n) (x : α) : Vector α n :=
  mapTable (fun j y => if j = i then x else y) t

/-- The state with a link's record replaced. -/
def State.setLink (s : State) (l : Link) (p : LinkPort) : State :=
  match l with
  | .a => { s with linkA := p }
  | .b => { s with linkB := p }

/-- The record of a carrier. -/
def State.carrier (s : State) : Carrier → CarrierUnit
  | .ca => s.carrierA
  | .cb => s.carrierB

/-- The state with a carrier's record replaced. -/
def State.setCarrierUnit (s : State) (c : Carrier) (u : CarrierUnit) : State :=
  match c with
  | .ca => { s with carrierA := u }
  | .cb => { s with carrierB := u }

/-- The record of a fault input. -/
def TripUnit.input (t : TripUnit) : FaultLine → FaultInput
  | .flt0 => t.flt0
  | .flt1 => t.flt1

/-- The state with a fault input's record replaced. -/
def State.setInput (s : State) (i : FaultLine) (x : FaultInput) : State :=
  match i with
  | .flt0 => { s with trip := { s.trip with flt0 := x } }
  | .flt1 => { s with trip := { s.trip with flt1 := x } }

/-- The state with a session's record replaced. -/
def State.setSession (s : State) (n : SessionNo) (r : Session) : State :=
  { s with sessions := putAt s.sessions n r }

/-- The state with a timebase's record replaced. -/
def State.setTimebase (s : State) (tb : TimebaseNo) (t : Timebase) : State :=
  { s with timebases := putAt s.timebases tb t }

/-! ## What the lease records say -/

/-- The staged settings of a binding, where the lease has a staged change (R4). -/
def LeaseRecord.stagedAt (r : LeaseRecord) (i : Nat) : Option Settings :=
  match r.phase with
  | .amendPending staged => staged[i]?
  | .armed => none
  | .running => none
  | .draining _ => none
  | .tripped _ _ => none

/-- The staged change as a list, empty where the lease has none (R4). -/
def LeaseRecord.stagedChange (r : LeaseRecord) : List Settings :=
  match r.phase with
  | .amendPending staged => staged
  | .armed => []
  | .running => []
  | .draining _ => []
  | .tripped _ _ => []

/-- The causes of a lease, empty where it is not TRIPPED (R3). -/
def LeaseRecord.causes (r : LeaseRecord) : SourceSet :=
  match r.phase with
  | .tripped causes _ => causes
  | .armed => .empty
  | .running => .empty
  | .amendPending _ => .empty
  | .draining _ => .empty

/-- The retire pending flag of a lease (R2, R3). -/
def LeaseRecord.retirePending (r : LeaseRecord) : Bool :=
  match r.phase with
  | .tripped _ p => p
  | .armed => false
  | .running => false
  | .amendPending _ => false
  | .draining _ => false

/-- A binding names a carrier in its active settings, its staged settings or both (R100). -/
def namesCarrier (active : Settings) (staged : Option Settings) (c : Carrier) : Bool :=
  active.gate == some c || staged.any (fun st => st.gate == some c)

/-- How many bindings of a lease name a carrier (R100). -/
def LeaseRecord.uses (r : LeaseRecord) (c : Carrier) : Nat :=
  (r.bindings.zipIdx.filter fun x => namesCarrier x.1.active (r.stagedAt x.2) c).length

/-- How many bindings of a table entry name a carrier: none for a FREE record. -/
def leaseUses (l : Lease) (c : Carrier) : Nat :=
  match l with
  | none => 0
  | some r => r.uses c

/-- How many bindings of all non-FREE leases name a carrier (R100). -/
def carrierUses (ls : Vector Lease 16) (c : Carrier) : Nat :=
  ((List.finRange 16).map fun n => leaseUses ls[n] c).sum

/-- Whether a lease is non-FREE and bound to a timebase (R48). -/
def boundTo (l : Lease) (tb : TimebaseNo) : Bool :=
  match l with
  | none => false
  | some r => r.timebase == tb

/-- The bindings a lease holds on a timebase (R48). -/
def leaseBindingsOn (l : Lease) (tb : TimebaseNo) : Nat :=
  match l with
  | none => 0
  | some r => if r.timebase = tb then r.bindings.length else 0

/-- The bindings of all non-FREE leases on a timebase (R48). -/
def bindingsOn (ls : Vector Lease 16) (tb : TimebaseNo) : Nat :=
  ((List.finRange 16).map fun n => leaseBindingsOn ls[n] tb).sum

/-- Whether a lease is non-FREE and held by a session (R1). -/
def heldBy (l : Lease) (n : SessionNo) : Bool :=
  match l with
  | none => false
  | some r => r.holder == n

/-- The held-lease count of a session (R1). -/
def State.heldCount (s : State) (n : SessionNo) : Nat :=
  ((List.finRange 16).filter fun k => heldBy s.leases[k] n).length

/-- The number of non-FREE leases that satisfy a condition. -/
def State.countLeases (s : State) (p : LeaseRecord → Bool) : Nat :=
  ((List.finRange 16).filter fun k => s.leases[k].any p).length

/-- The lowest-numbered FREE lease record (R1, R37). -/
def State.lowestFreeLease (s : State) : Option LeaseNo :=
  (List.finRange 16).find? fun n => s.leases[n].isNone

/-- The coming period of a running timebase (00_scope, Terms; R31). -/
def TimebaseRun.coming (r : TimebaseRun) : Nat := r.staged.getD r.period

/-! ## Writing the lease table with the counts that follow it -/

/-- A carrier with its in-use count moved from one lease table to another (R100). -/
def CarrierUnit.recount (u : CarrierUnit) (old new : Nat) : CarrierUnit :=
  { u with inUse := u.inUse + new - old }

/-- A timebase with its reference count moved from one lease table to another (R48). -/
def Timebase.recount (t : Timebase) (old new : Nat) : Timebase :=
  { t with refCount := t.refCount + new - old }

/-- The state with a new lease table. The in-use counts of the carriers and the reference counts of the
timebases rise and fall with the bindings that come and go (R11, R16, R38, R39, R48, R55, R73, R74,
R100). -/
def State.setLeases (s : State) (new : Vector Lease 16) : State :=
  { s with
    leases := new
    carrierA := s.carrierA.recount (carrierUses s.leases .ca) (carrierUses new .ca)
    carrierB := s.carrierB.recount (carrierUses s.leases .cb) (carrierUses new .cb)
    timebases := mapTable
      (fun tb t => t.recount (bindingsOn s.leases tb) (bindingsOn new tb)) s.timebases }

/-- The state with one lease's record replaced. -/
def State.putLease (s : State) (n : LeaseNo) (l : Lease) : State :=
  s.setLeases (putAt s.leases n l)

/-! ## Channel engines -/

/-- The lease of an engine in use (R86). -/
def Engine.lease? : Engine → Option LeaseNo
  | .unused => none
  | .held u => some u.place.lease
  | .generating u _ _ => some u.place.lease

/-- An engine with a change to what it holds, its output state kept. -/
def Engine.mapUse (f : EngineUse → EngineUse) : Engine → Engine
  | .unused => .unused
  | .held u => .held (f u)
  | .generating u e o => .generating (f u) e o

/-- An engine that goes HELD: its active settings kept, its dead-band state gone (R86, R87). -/
def Engine.hold : Engine → Engine
  | .unused => .unused
  | .held u => .held u
  | .generating u _ _ => .held u

/-- An engine without staged settings (R11). -/
def Engine.dropStage (e : Engine) : Engine := e.mapUse fun u => { u with staged := none }

/-- The state with the engines of each lease changed by a function of the lease. -/
def State.mapEngines (s : State) (f : LeaseNo → Engine → Engine) : State :=
  { s with engines := mapTable (fun _ e => match e.lease? with | none => e | some n => f n e) s.engines }

/-! ## Notices (Section 8) -/

/-- A session after kinds are recorded for the leases that it holds, under its mask (R145, R147). -/
def SessionRecord.recorded (r : SessionRecord) (n : SessionNo) (leases : Vector Lease 16)
    (kinds : LeaseNo → KindSet) : SessionRecord :=
  { r with
    notices := mapTable
      (fun k old => if heldBy leases[k] n then old.union ((kinds k).inter r.mask) else old) r.notices }

/-- The state after a happening records kinds for leases, each in the set of the lease's holder
(R145, R146). -/
def State.recordNotices (s : State) (kinds : LeaseNo → KindSet) : State :=
  { s with sessions := mapTable (fun n r => r.map fun r => r.recorded n s.leases kinds) s.sessions }

/-- The state after a kind is recorded for a lease in one session's set, whoever holds the lease (R145: ADOPTED
alone goes to the session that held it before). -/
def State.recordFor (s : State) (n : SessionNo) (k : LeaseNo) (kind : KindSet) : State :=
  s.setSession n (s.sessions[n].map fun r =>
    { r with notices := putAt r.notices k (r.notices[k].union (kind.inter r.mask)) })

/-! ## Teardown (R16, R64, R65) -/

/-- A pin released if a freed lease owns it: no owner, and its rest level shown (R16, R96). -/
def PinEntry.releaseIf (which : LeaseNo → Bool) (p : PinEntry) : PinEntry :=
  match p.owner with
  | none => p
  | some o => if which o.place.lease then { p with owner := none, level := p.rest } else p

/-- A channel map entry freed if a freed lease holds it (R8, R16). -/
def freeChannelIf (which : LeaseNo → Bool) (c : Option Place) : Option Place :=
  match c with
  | none => none
  | some p => if which p.lease then none else some p

/-- The lowest-numbered non-FREE lease bound to a timebase (R64). -/
def lowestBound (ls : Vector Lease 16) (tb : TimebaseNo) : Option LeaseNo :=
  (List.finRange 16).find? fun n => boundTo ls[n] tb

/-- A timebase after teardowns on it have left the lease table `ls`: IDLE when its reference count is zero
(R65); else succession when its holder is gone (R64). -/
def Timebase.settle (t : Timebase) (ls : Vector Lease 16) (tb : TimebaseNo) : Timebase :=
  match t.run with
  | none => t
  | some r =>
    if t.refCount = 0 then { t with counter := 0, run := none }
    else if boundTo ls[r.holder] tb then t
    else match lowestBound ls tb with
      | none => t
      | some n => { t with run := some { r with holder := n } }

/-- Whether some freed lease was bound to a timebase. -/
def leavesTimebase (ls : Vector Lease 16) (which : LeaseNo → Bool) (tb : TimebaseNo) : Bool :=
  (List.finRange 16).any fun n => which n && boundTo ls[n] tb

/-- The lease table after leases are freed (R16, part 5). -/
def freedLeases (ls : Vector Lease 16) (which : LeaseNo → Bool) : Vector Lease 16 :=
  mapTable (fun n l => if which n then none else l) ls

/-- TEARDOWN of every lease that `which` names, in one happening (R16): pins, channels, engines, carriers,
timebases and records. The timebases are settled once from the leases that remain (R58, R64, R65). -/
def State.freeLeases (s : State) (which : LeaseNo → Bool) : State :=
  let s1 : State :=
    { s with
      pins := mapTable (fun _ p => p.releaseIf which) s.pins
      channels := mapTable (fun _ c => freeChannelIf which c) s.channels }
  let s2 := s1.mapEngines fun n e => if which n then .unused else e
  let s3 := s2.setLeases (freedLeases s.leases which)
  { s3 with
    timebases := mapTable
      (fun tb t =>
        if leavesTimebase s.leases which tb then t.settle (freedLeases s.leases which) tb else t)
      s3.timebases }

/-- Teardown of one lease (R16). -/
def State.teardown (s : State) (n : LeaseNo) : State := s.freeLeases fun k => k == n

/-! ## Trips (R110, R111) -/

/-- A lease's phase after a trip or lapse with a cause (R111). -/
def Phase.trip (cause : Source) : Phase → Phase
  | .armed => .tripped (SourceSet.empty.add cause) false
  | .running => .tripped (SourceSet.empty.add cause) false
  | .amendPending _ => .tripped (SourceSet.empty.add cause) false
  | .draining _ => .tripped (SourceSet.empty.add cause) true
  | .tripped causes pending => .tripped (causes.add cause) pending

/-- A lease record after a trip that reaches it: the staged change or the retire plan goes with the phase
that held it (R3, R4, R11). -/
def LeaseRecord.trip (r : LeaseRecord) (cause : Source) : LeaseRecord :=
  { r with phase := r.phase.trip cause }

/-- Whether a trip reaches a table entry. -/
def reaches (reached : LeaseRecord → Bool) (l : Lease) : Bool := l.any reached

/-- The lease table after a trip. -/
def trippedLeases (ls : Vector Lease 16) (reached : LeaseRecord → Bool) (cause : Source) :
    Vector Lease 16 :=
  mapTable (fun _ l => l.map fun r => if reached r then r.trip cause else r) ls

/-- A TRIP: every non-FREE lease that `reached` holds of becomes TRIPPED or gains the cause, its stage
discarded, its engines held, its carrier counts lowered and TRIPPED recorded for its holder (R110, R111). -/
def State.takeTrip (s : State) (reached : LeaseRecord → Bool) (cause : Source) : State :=
  let s1 := s.recordNotices fun n =>
    if reaches reached s.leases[n] then { KindSet.empty with tripped := true } else .empty
  let s2 := s1.mapEngines fun n e =>
    if reaches reached s.leases[n] then e.hold.dropStage else e
  s2.setLeases (trippedLeases s.leases reached cause)

/-- The leases a trip of a fault input reaches (R110). -/
def subscribedTo (i : FaultLine) (r : LeaseRecord) : Bool := r.subscription.has i

/-- The source of a fault input. -/
def lineSource : FaultLine → Source
  | .flt0 => .flt0
  | .flt1 => .flt1

/-- The latch of a fault input set, with a trip when it was clear (R105, R120). -/
def State.setInputLatch (s : State) (i : FaultLine) : State :=
  let x := s.trip.input i
  if x.latch then s
  else (s.setInput i { x with latch := true }).takeTrip (subscribedTo i) (lineSource i)

/-- The supply latch set, with a trip when it was clear (R107, R121). -/
def State.setSupplyLatch (s : State) : State :=
  if s.trip.supplyLatch then s
  else ({ s with trip := { s.trip with supplyLatch := true } }).takeTrip (fun _ => true) .supply

/-! ## Sessions (Section 7) -/

/-- A session that lapses: LAPSED with a hold of four intervals, and its leases reached with cause LAPSE,
TRIPPED recorded in its own set (R131). A session that is not OPEN is left as it was. -/
def State.lapseSession (s : State) (n : SessionNo) : State :=
  match s.sessions[n] with
  | none => s
  | some r =>
    match r.status with
    | .lapsed _ => s
    | .opened _ =>
      (s.setSession n (some { r with status := .lapsed (Config.holdIntervals * r.interval) })).takeTrip
        (fun l => l.holder == n) .lapse

/-- A session closed: its leases torn down, its notice set discarded and its record FREE
(R134, R135). -/
def State.closeSession (s : State) (n : SessionNo) : State :=
  (s.freeLeases fun k => heldBy s.leases[k] n).setSession n none

/-- One session's timer happening (R130): OPEN, the remaining time falls by one and at 0 the session lapses;
LAPSED, the hold remaining falls by one and at 0 the session is closed; FREE, nothing. -/
def State.timerHappening (s : State) (n : SessionNo) : State :=
  match s.sessions[n] with
  | none => s
  | some r =>
    match r.status with
    | .opened t =>
      if t ≤ 1 then s.lapseSession n
      else s.setSession n (some { r with status := .opened (t - 1) })
    | .lapsed h =>
      if h ≤ 1 then s.closeSession n
      else s.setSession n (some { r with status := .lapsed (h - 1) })

/-- Whether a session is of class SUPERVISOR. -/
def State.isSupervisor (s : State) (n : SessionNo) : Bool :=
  s.sessions[n].any fun r => r.cls == .supervisor

/-- Whether a session is LAPSED. -/
def State.isLapsed (s : State) (n : SessionNo) : Bool :=
  s.sessions[n].any fun r => match r.status with | .opened _ => false | .lapsed _ => true

/-- The SUPERVISOR session, OPEN or LAPSED (R125: there is at most one). -/
def State.supervisor (s : State) : Option SessionNo :=
  (List.finRange 8).find? fun n => s.isSupervisor n

/-- The lowest-numbered FREE session record (R126). -/
def State.lowestFreeSession (s : State) : Option SessionNo :=
  (List.finRange 8).find? fun n => s.sessions[n].isNone

/-- A session record renewed: an OPEN one's remaining time is its interval; a LAPSED one has no keep-alive timer
(R128). -/
def SessionRecord.renewed (r : SessionRecord) : SessionRecord :=
  match r.status with
  | .lapsed _ => r
  | .opened _ => { r with status := .opened r.interval }

/-- The state after a session is renewed (R128). -/
def State.renewed (s : State) (n : SessionNo) : State :=
  s.setSession n (s.sessions[n].map SessionRecord.renewed)

end Sys2Proof.Machine
end

