-- ==== Sys2Proof/Machine/Waveform.lean ====
section
/-! DEFINITION. What the engines generate and the pins show (Section 5), the attention lines (R151), and the
recomputation of all three that ends every happening: the manual sets a pin's current level "at every
moment" (R95) and an attention line "within every happening" (R151). DEDUCED, safe, log 11. -/

namespace Sys2Proof.Machine

/-! ## Windows (R89, R92) -/

/-- In window: the counter is less than the active duty (R89). -/
def inPrimaryWindow (counter duty : Nat) : Bool := counter < duty

/-- The edges of the complement window: duty plus dead band up to the period less one less the dead band
(R92). -/
def complementEdges (st : Settings) (period : Nat) : Edges :=
  { lower := st.duty + st.deadBand, upper := (period : Int) - 1 - (st.deadBand : Int) }

/-- In the complement window (R92). With the lower edge above the upper no counter value is. -/
def inComplementWindow (counter : Nat) (e : Edges) : Bool :=
  e.lower ≤ counter && (counter : Int) ≤ e.upper

/-- The counter of the timebase of a lease. -/
def State.counterOf (s : State) (n : LeaseNo) : Nat :=
  match s.leases[n] with
  | none => 0
  | some r => s.timebases[r.timebase].counter

/-- The period in force of the timebase of a lease. -/
def State.periodOf (s : State) (n : LeaseNo) : Nat :=
  match s.leases[n] with
  | none => 0
  | some r =>
    match s.timebases[r.timebase].run with
    | none => 0
    | some t => t.period

/-- The output of a generating engine at the present count and carrier levels (R86, R89, R92). -/
def State.engineOutput (s : State) (u : EngineUse) (edges : Option Edges) : EngineOutput :=
  { inWindow :=
      match u.place.role with
      | .primary => inPrimaryWindow (s.counterOf u.place.lease) u.active.duty
      | .complement => edges.any fun e => inComplementWindow (s.counterOf u.place.lease) e
    carrier := u.active.gate.map fun c => (s.carrier c).high }

/-- An engine with its output recomputed; only a GENERATING engine has one (R86). -/
def State.engineNow (s : State) : Engine → Engine
  | .unused => .unused
  | .held u => .held u
  | .generating u e _ => .generating u e (s.engineOutput u e)

/-! ## Levels (R90, R91, R95) -/

/-- The active level of a polarity (R90). -/
def Polarity.activeLevel : Polarity → Level
  | .activeHigh => .high
  | .activeLow => .low

/-- The inactive level of a polarity (R90). -/
def Polarity.inactiveLevel : Polarity → Level
  | .activeHigh => .low
  | .activeLow => .high

/-- Whether an output shows the active level: in window for an ungated binding; in window and the carrier
high under MARK; in window or the carrier high under SPACE (R91, R92). -/
def EngineOutput.active (o : EngineOutput) (mode : CarrierMode) : Bool :=
  match o.carrier with
  | none => o.inWindow
  | some high =>
    match mode with
    | .mark => o.inWindow && high
    | .space => o.inWindow || high

/-- The level an output gives its pin (R90). -/
def outputLevel (st : Settings) (o : EngineOutput) : Level :=
  if o.active st.mode then st.polarity.activeLevel else st.polarity.inactiveLevel

/-- Whether the pins of a lease show their safe levels: ARMED and TRIPPED (R9, R95). -/
def Phase.showsSafe : Phase → Bool
  | .armed => true
  | .tripped _ _ => true
  | .running => false
  | .amendPending _ => false
  | .draining _ => false

/-- The safe level of a binding for a role (R7). A single binding has no complement. -/
def Binding.safeFor (b : Binding) : Role → Level
  | .primary => b.safe
  | .complement =>
    match b.complement with
    | none => b.safe
    | some k => k.safe

/-- The channel of a binding for a role (R7, R86). -/
def Binding.channelFor (b : Binding) : Role → ChannelNo
  | .primary => b.channel
  | .complement =>
    match b.complement with
    | none => b.channel
    | some k => k.channel

/-- The level a pin shows (R95): unowned, the rest level; owned by an ARMED or TRIPPED lease, the binding's
safe level for the pin's role; else the level its engine gives. -/
def State.levelOf (s : State) (p : PinEntry) : Level :=
  match p.owner with
  | none => p.rest
  | some o =>
    match s.leases[o.place.lease] with
    | none => p.rest
    | some r =>
      match r.bindings[o.place.index]? with
      | none => p.rest
      | some b =>
        if r.phase.showsSafe then b.safeFor o.place.role
        else
          match s.engines[b.channelFor o.place.role] with
          | .unused => b.safeFor o.place.role
          | .held _ => b.safeFor o.place.role
          | .generating u _ out => outputLevel u.active out

/-- The electrical form of a pin (R90). -/
inductive PinDrive where
  | high | low | released
  deriving DecidableEq, Repr

/-- How a level is shown under a drive mode (R90). -/
def driveOf (d : DriveMode) (l : Level) : PinDrive :=
  match l with
  | .float => .released
  | .low => .low
  | .high =>
    match d with
    | .pushPull => .high
    | .openDrain => .released

/-- What the crossbar does with a pin: an unowned pin is shown as under PUSH_PULL, and every pin is released
while a full reset is held (R90, R95). -/
def State.pinDrive (s : State) (p : PinNo) : PinDrive :=
  if s.resetHeld then .released
  else
    match s.pins[p].owner with
    | none => driveOf .pushPull s.pins[p].level
    | some o => driveOf o.drive s.pins[p].level

/-! ## Link lines (R153, R166, R172) -/

/-- Whether a link's data-out line is driven: while its chip select is low, which is while a transaction is in
progress, and no full reset is held (R153, R166, R172). -/
def State.dataOutDriven (s : State) (l : Link) : Bool := !s.resetHeld && (s.link l).transaction.isSome

/-- What a link's attention output does with its open-drain line: pulled low while the attention line is active,
released while it is inactive and while a full reset is held (R172). -/
def State.attentionDrive (s : State) (l : Link) : PinDrive :=
  if !s.resetHeld && (s.link l).attention then .low else .released

/-! ## Attention (R151) -/

/-- Whether a link's attention line is active: its slot is DONE or a session of it has an unread notice; while
a full reset is held both lines are inactive (R151). -/
def State.attentionOf (s : State) (l : Link) : Bool :=
  !s.resetHeld && ((s.link l).slot.isDone || s.noticePending l)

/-! ## The end of a happening -/

/-- Every engine's output recomputed. -/
def State.refreshEngines (s : State) : State :=
  { s with engines := mapTable (fun _ e => s.engineNow e) s.engines }

/-- Every pin's current level recomputed. -/
def State.refreshPins (s : State) : State :=
  { s with pins := mapTable (fun _ p => { p with level := s.levelOf p }) s.pins }

/-- Both attention lines recomputed. -/
def State.refreshAttention (s : State) : State :=
  { s with
    linkA := { s.linkA with attention := s.attentionOf .a }
    linkB := { s.linkB with attention := s.attentionOf .b } }

/-- The outputs of the part brought up to date with its records (R86, R95, R151). -/
def State.refresh (s : State) : State := s.refreshEngines.refreshPins.refreshAttention

/-- A happening of the executor, a timebase, a carrier, a session or the Trip Unit: none is taken while a
full reset is held (R122, R143, R166), and each ends with the outputs brought up to date. -/
def State.happen (s : State) (f : State → State) : Result :=
  .next (if s.resetHeld then s else (f s).refresh)

end Sys2Proof.Machine
end

