-- ==== Sys2Proof/Machine/Operands.lean ====
section
/-! DEFINITION. Operand forms: the fields of a command's parameters (R169, R170), the settings byte and the
safe byte, the blocks of CLAIM and AMEND, and the encodings of responses (R169, R171). A received field is
read as the number it carries, so that values beyond its range reach the command's own checks. -/

namespace Sys2Proof.Machine

/-- A refusal of a command by a check: the status and the detail byte (R165). -/
structure Reject where
  status : Status
  detail : Byte
  deriving DecidableEq, Repr

/-- The response of a refused command: no data (R164). -/
def Reject.response (r : Reject) : Response := { status := r.status, detail := r.detail, data := [] }

/-- The response of an accepted command: GOOD, detail 00h (R164). -/
def goodResponse (data : List Byte) : Response := { status := .good, detail := 0, data := data }

/-- A check: passes when the condition holds, else refuses with a status and a detail. -/
def check (cond : Bool) (status : Status) (detail : Byte) : Except Reject Unit :=
  if cond then .ok () else .error { status := status, detail := detail }

/-- A check that yields a value: refuses where there is none. -/
def need {α : Type} (x : Option α) (status : Status) (detail : Byte) : Except Reject α :=
  match x with
  | some a => .ok a
  | none => .error { status := status, detail := detail }

/-! ## Fields of the parameters (R170) -/

/-- The number a one-byte parameter carries. -/
def arg (params : List Byte) (k : Nat) : Nat := (params.getD k 0).toNat

/-- The number a two-byte parameter carries, most significant byte first (R168). -/
def arg2 (params : List Byte) (k : Nat) : Nat := arg params k * 256 + arg params (k + 1)

/-- A number as an index of a table of `n` records, where it is one. -/
def indexOf (n k : Nat) : Option (Fin n) := if h : k < n then some ⟨k, h⟩ else none

/-! ## Settings byte and safe byte (R169) -/

/-- The code of a carrier gate. -/
def gateCode : Option Carrier → Nat
  | none => 0
  | some .ca => 1
  | some .cb => 2

/-- The carrier gate of a code; 3 is not a code. -/
def gateOfCode : Nat → Option (Option Carrier)
  | 0 => some none
  | 1 => some (some .ca)
  | 2 => some (some .cb)
  | _ => none

/-- Bit 2 of a settings byte. -/
def CarrierMode.code : CarrierMode → Nat
  | .mark => 0
  | .space => 1

/-- Bit 3 of a settings byte. -/
def Polarity.code : Polarity → Nat
  | .activeHigh => 0
  | .activeLow => 1

/-- Bit 4 of a settings byte. -/
def DriveMode.code : DriveMode → Nat
  | .pushPull => 0
  | .openDrain => 1

/-- The settings byte of a binding's settings and drive mode (R169). -/
def settingsByte (st : Settings) (d : DriveMode) : Byte :=
  byte (gateCode st.gate + 4 * st.mode.code + 8 * st.polarity.code + 16 * d.code)

/-- The settings a duty, a dead band and a settings byte spell, with the drive mode; none where the byte
holds a value that is not a code (R169). -/
def readSettings (duty deadBand b : Nat) : Option (Settings × DriveMode) :=
  if b < 32 then
    match gateOfCode (b % 4) with
    | none => none
    | some gate =>
      some ({ duty := duty
              polarity := if bitAt b 3 then .activeLow else .activeHigh
              deadBand := deadBand
              gate := gate
              mode := if bitAt b 2 then .space else .mark },
            if bitAt b 4 then .openDrain else .pushPull)
  else none

/-- The primary and complement safe levels a safe byte spells; none where it holds a value that is not a
code (R169). -/
def readSafe (b : Nat) : Option (Level × Level) :=
  if b < 16 then
    match Level.ofCode (b % 4), Level.ofCode (b / 4) with
    | some p, some c => some (p, c)
    | _, _ => none
  else none

/-- The safe byte of a binding; a single binding sends 3 for its complement (R169). -/
def safeByte (b : Binding) : Byte :=
  byte (b.safe.code.toNat + 4 * (match b.complement with | none => 3 | some k => k.safe.code.toNat))

/-! ## Blocks of CLAIM and AMEND (R24, R27, R68, R70, R170) -/

/-- A binding block as a claim gives it, its fields in range (R24). -/
structure ClaimBlock where
  pin : PinNo
  complementPin : Option PinNo
  settings : Settings
  drive : DriveMode
  safe : Level
  complementSafe : Level
  deriving DecidableEq, Repr

/-- The pins a block names. -/
def ClaimBlock.pins (b : ClaimBlock) : List PinNo := b.pin :: b.complementPin.toList

/-- The complement pin field: FFh for none, or a pin (R24). -/
def readComplementPin (k : Nat) : Option (Option PinNo) :=
  if k = 0xFF then some none else (indexOf 24 k).map some

/-- The dead band is non-zero only with a complement pin, and the gate NONE with one (R27, R70). -/
def settingsFit (st : Settings) (complementary : Bool) : Bool :=
  (st.deadBand == 0 || complementary) && (st.gate == none || !complementary)

/-- The seven bytes at an offset as a binding block, where the block has no fault of R27. `earlier` holds
the pins of the blocks before it. -/
def readClaimBlock (params : List Byte) (at_ : Nat) (earlier : List PinNo) : Option ClaimBlock := do
  let pin ← indexOf 24 (arg params at_)
  let complementPin ← readComplementPin (arg params (at_ + 1))
  let duty := arg2 params (at_ + 2)
  let deadBand := arg params (at_ + 4)
  let (st, drive) ← readSettings duty deadBand (arg params (at_ + 5))
  let (safe, complementSafe) ← readSafe (arg params (at_ + 6))
  let b : ClaimBlock := { pin, complementPin, settings := st, drive, safe, complementSafe }
  if duty ≤ 4095 ∧ deadBand ≤ 63 ∧ settingsFit st complementPin.isSome
      ∧ complementPin ≠ some pin ∧ b.pins.all (fun p => !earlier.contains p)
  then some b else none

/-- The blocks of a claim from index `i` on, `n` of them; the first with a fault refuses with its index
(R27). -/
def readClaimBlocks (params : List Byte) (earlier : List PinNo) :
    (i n : Nat) → Except Reject (List ClaimBlock)
  | _, 0 => .ok []
  | i, n + 1 => do
    let b ← need (readClaimBlock params (7 + 7 * i) earlier) .badArgument (byte i)
    let bs ← readClaimBlocks params (earlier ++ b.pins) (i + 1) n
    .ok (b :: bs)

/-- The four bytes at an offset as an amend block for a binding, where the block has no fault of R70. Bit 4
of the settings byte must be 0 (R169). -/
def readAmendBlock (params : List Byte) (at_ : Nat) (b : Binding) : Option Settings := do
  let duty := arg2 params at_
  let deadBand := arg params (at_ + 2)
  let (st, drive) ← readSettings duty deadBand (arg params (at_ + 3))
  if duty ≤ 4095 ∧ deadBand ≤ 63 ∧ drive = .pushPull ∧ settingsFit st b.complement.isSome
  then some st else none

/-- The amend blocks for the bindings of a lease from index `i` on; the first with a fault refuses with its
index (R70). -/
def readAmendBlocks (params : List Byte) : (i : Nat) → List Binding → Except Reject (List Settings)
  | _, [] => .ok []
  | i, b :: bs => do
    let st ← need (readAmendBlock params (3 + 4 * i) b) .badArgument (byte i)
    let sts ← readAmendBlocks params (i + 1) bs
    .ok (st :: sts)

/-- The index of the first entry that fails a check, in binding-index order. -/
def firstFailing {α : Type} (ok : α → Bool) : (i : Nat) → List α → Option Nat
  | _, [] => none
  | i, x :: xs => if ok x then firstFailing ok (i + 1) xs else some i

/-- A check of every entry in binding-index order: the first that fails refuses with its index. -/
def checkEach {α : Type} (ok : α → Bool) (xs : List α) (status : Status) : Except Reject Unit :=
  match firstFailing ok 0 xs with
  | none => .ok ()
  | some i => .error { status := status, detail := byte i }

/-- A pair of safe levels passes under a polarity unless both equal its active level (R30, R72). -/
def safePairFits (polarity : Polarity) (primary complement : Level) : Bool :=
  !(primary == polarity.activeLevel && complement == polarity.activeLevel)

/-- A gate passes when it is NONE or its carrier's divider is not 0 (R33, R72). -/
def State.gateRunning (s : State) (gate : Option Carrier) : Bool :=
  match gate with
  | none => true
  | some c => (s.carrier c).divider != 0

/-! ## Responses (R169, R171) -/

/-- A lease number, session number and so on, FFh for none (R169). -/
def indexByte {n : Nat} (k : Option (Fin n)) : Byte :=
  match k with
  | none => 0xFF
  | some i => byte i.val

/-- A period, FFFFh for none (R169). -/
def periodBytes (p : Option Nat) : List Byte := twoBytes (p.getD 0xFFFF)

/-- The retire plan of a record: mode and step (R169). -/
def planBytes : Lease → List Byte
  | none => [0xFF, 0]
  | some r =>
    match r.phase with
    | .draining .atBoundary => [1, 0]
    | .draining (.ramp step) => [2, byte step]
    | .armed => [0xFF, 0]
    | .running => [0xFF, 0]
    | .amendPending _ => [0xFF, 0]
    | .tripped _ _ => [0xFF, 0]

/-- The nine bytes of a binding record with the settings to report (R171). -/
def bindingBytes (b : Binding) (st : Settings) : List Byte :=
  [byte b.channel.val, indexByte (b.complement.map (·.channel)), byte b.pin.val,
    indexByte (b.complement.map (·.pin))] ++ twoBytes st.duty
    ++ [byte st.deadBand, settingsByte st b.drive, safeByte b]

/-- QUERY LEASE data of a lease in the ACTIVE view (R19, R171). -/
def leaseBytesActive (n : LeaseNo) (l : Lease) : List Byte :=
  match l with
  | none => [byte n.val, 0]
  | some r =>
    [byte n.val, r.phase.code, byte r.holder.val, byte r.timebase.val, r.subscription.toByte,
      byte r.bindings.length, r.generation] ++ planBytes (some r)
      ++ [r.causes.toByte, flagByte r.retirePending]
      ++ r.bindings.flatMap fun b => bindingBytes b b.active

/-- QUERY LEASE data of an AMEND_PENDING lease in the STAGED view: the five settings from the staged change
(R20, R171). -/
def leaseBytesStaged (n : LeaseNo) (r : LeaseRecord) : List Byte :=
  [byte n.val, r.phase.code, byte r.holder.val, byte r.timebase.val, r.subscription.toByte,
    byte r.bindings.length, r.generation] ++ planBytes (some r)
    ++ [r.causes.toByte, flagByte r.retirePending]
    ++ (r.bindings.zip r.stagedChange).flatMap fun x => bindingBytes x.1 x.2

/-- The bytes of a response frame, with the check byte that makes their sum 0 (R158, R168). -/
def Response.bytes (r : Response) : List Byte :=
  let body := [r.status.code, r.detail, byte r.data.length] ++ r.data
  body ++ [0 - byteSum body]

end Sys2Proof.Machine
end

