-- ==== Sys2Proof/Machine/Executor.lean ====
section
/-! DEFINITION. The Command Executor: its choice of link, the common checks, the renewal and the placing of the
response (R162 to R164), the lease guard (R12 to R14), the permission check of the configuration
commands (R140), and BAD_COMMAND (R163). -/

namespace Sys2Proof.Machine

/-- The commands the table of codes holds (R170). -/
inductive Command where
  | openSession | renew | closeSession | claim | amend | retire | clearTrip | retune | adopt
  | readNotices | readFaults | querySession | queryLease | queryTimebase | findByPin | listLeases
  | setPinRest | setCarrier | setFaultEdge | setSupplyLevel | haltAll | releaseHalt
  deriving DecidableEq, Repr

/-- The code of a command (R170). -/
def Command.code : Command → Byte
  | .openSession => 0x01
  | .renew => 0x02
  | .closeSession => 0x03
  | .claim => 0x10
  | .amend => 0x11
  | .retire => 0x12
  | .clearTrip => 0x13
  | .retune => 0x14
  | .adopt => 0x15
  | .readNotices => 0x20
  | .readFaults => 0x21
  | .querySession => 0x22
  | .queryLease => 0x23
  | .queryTimebase => 0x24
  | .findByPin => 0x25
  | .listLeases => 0x26
  | .setPinRest => 0x30
  | .setCarrier => 0x31
  | .setFaultEdge => 0x32
  | .setSupplyLevel => 0x33
  | .haltAll => 0x34
  | .releaseHalt => 0x35

/-- Every command. -/
def Command.all : List Command :=
  [.openSession, .renew, .closeSession, .claim, .amend, .retire, .clearTrip, .retune, .adopt,
    .readNotices, .readFaults, .querySession, .queryLease, .queryTimebase, .findByPin, .listLeases,
    .setPinRest, .setCarrier, .setFaultEdge, .setSupplyLevel, .haltAll, .releaseHalt]

/-- The command a code names, if any (R163, R170). -/
def Command.ofCode (code : Byte) : Option Command := Command.all.find? fun c => c.code == code

/-- The parameter lengths a command takes (R170). -/
def Command.lengths : Command → List Nat
  | .openSession => [4]
  | .renew => [1]
  | .closeSession => [1]
  | .claim => [14, 21, 28, 35]
  | .amend => [7, 11, 15, 19]
  | .retire => [4]
  | .clearTrip => [2]
  | .retune => [4]
  | .adopt => [2]
  | .readNotices => [1]
  | .readFaults => [2]
  | .querySession => [2]
  | .queryLease => [3]
  | .queryTimebase => [2]
  | .findByPin => [2]
  | .listLeases => [2]
  | .setPinRest => [3]
  | .setCarrier => [4]
  | .setFaultEdge => [3]
  | .setSupplyLevel => [2]
  | .haltAll => [1]
  | .releaseHalt => [1]

/-- Whether a LAPSED session may send a command (R133). -/
def Command.lapsedMay : Command → Bool
  | .readNotices | .querySession | .queryLease | .queryTimebase | .listLeases | .findByPin
  | .readFaults | .closeSession => true
  | .openSession | .renew | .claim | .amend | .retire | .clearTrip | .retune | .adopt | .setPinRest
  | .setCarrier | .setFaultEdge | .setSupplyLevel | .haltAll | .releaseHalt => false

/-- Whether a session in a state may send a command: an OPEN one any, a LAPSED one those of R133. -/
def Command.allowedIn (c : Command) : SessionStatus → Bool
  | .opened _ => true
  | .lapsed _ => c.lapsedMay

/-! ## Choice of link (R162) -/

/-- The frame of a slot that is QUEUED. -/
def Slot.frame? : Slot → Option Frame
  | .queued f => some f
  | .idle => none
  | .filling _ => none
  | .done _ => none

/-- The link the executor takes from and the command it takes: the one QUEUED slot, or of two the link it did
not serve last (R162). -/
def State.chosen (s : State) : Option (Link × Frame) :=
  match s.linkA.slot.frame?, s.linkB.slot.frame? with
  | none, none => none
  | some f, none => some (.a, f)
  | none, some g => some (.b, g)
  | some f, some g => if s.lastServed = .a then some (.b, g) else some (.a, f)

/-- The response placed in the slot the command came from, which becomes DONE; the last-served link becomes
that link (R162). -/
def State.place (s : State) (l : Link) (r : Response) : State :=
  { s.setLink l { s.link l with slot := .done r } with lastServed := l }

/-! ## Common checks (R163) -/

/-- Step 2: the parameter length is one the command takes. -/
def checkLength (c : Command) (f : Frame) : Except Reject Unit :=
  check (c.lengths.contains f.params.length) .badLength (byte f.params.length)

/-- Steps 3 to 5: the session number names a record that is not FREE, opened on the link, in a state that
allows the command. -/
def State.checkSession (s : State) (c : Command) (l : Link) (f : Frame) : Except Reject SessionNo := do
  let n ← need (indexOf 8 (arg f.params 0)) .noSession (f.params.getD 0 0)
  let r ← need s.sessions[n] .noSession (f.params.getD 0 0)
  check (r.link == l) .wrongLink (linkCode r.link)
  check (c.allowedIn r.status) .lapsed 0
  .ok n

/-- What a command's own checks and effect answer: a refusal, or the state it leaves and its response. -/
abbrev Performed := Except Reject (State × Response)

/-- A refused command leaves the tables as they are (R164). -/
def settleRefusal (s : State) (p : Performed) : State × Response :=
  match p with
  | .error r => (s, r.response)
  | .ok x => x

/-- A command that carries a session: the common checks, the renewal, and what the command performs on the
renewed tables (R128, R163, R164). -/
def State.serveSession (s : State) (c : Command) (perform : State → SessionNo → List Byte → Performed)
    (l : Link) (f : Frame) : State × Response :=
  match (do checkLength c f; s.checkSession c l f) with
  | .error r => (s, r.response)
  | .ok n => settleRefusal (s.renewed n) (perform (s.renewed n) n f.params)

/-- The executor takes a command that carries a session: if the command it chooses is this one, its response is
placed (R162). Otherwise this happening does not come about (log 6). -/
def State.takeSession (s : State) (c : Command) (perform : State → SessionNo → List Byte → Performed) :
    State :=
  match s.chosen with
  | none => s
  | some (l, f) =>
    if f.code = c.code then
      (s.serveSession c perform l f).1.place l (s.serveSession c perform l f).2
    else s

/-! ## Shared checks -/

/-- The first check of the lease guard: a lease number 0 to 15 (R12). -/
def readLease (params : List Byte) : Except Reject LeaseNo :=
  need (indexOf 16 (arg params 1)) .badArgument 0xFF

/-- NOT_HOLDER with the holder's session number, FFh for a FREE lease (R13). -/
def holderByte (l : Lease) : Byte :=
  match l with
  | none => 0xFF
  | some r => byte r.holder.val

/-- Authority of the holder, and of the supervisor where the command gives it (R13). -/
def State.checkHolder (s : State) (n : SessionNo) (k : LeaseNo) (supervisorMay : Bool) :
    Except Reject Unit :=
  check (heldBy s.leases[k] n || (supervisorMay && s.isSupervisor n)) .notHolder (holderByte s.leases[k])

/-- WRONG_STATE with the lease's state code where the lease is FREE or its phase not accepted (R14). -/
def checkPhase (l : Lease) (accepts : Phase → Bool) : Except Reject LeaseRecord :=
  match l with
  | none => .error { status := .wrongState, detail := leaseCode none }
  | some r =>
    if accepts r.phase then .ok r else .error { status := .wrongState, detail := leaseCode (some r) }

/-- The class check of HALT ALL, RELEASE HALT and ADOPT (R13, R108, R109, R137). -/
def State.checkSupervisor (s : State) (n : SessionNo) : Except Reject Unit :=
  check (s.isSupervisor n) .notSupervisor 0

/-- The permission check of the configuration commands: any session where no supervisor is OPEN or LAPSED;
else the supervisor itself, which is OPEN since it sends a command a LAPSED session may not (R140). -/
def State.checkConfigure (s : State) (n : SessionNo) : Except Reject Unit :=
  check (s.supervisor.isNone || (s.isSupervisor n && !s.isLapsed n)) .notSupervisor 0

/-! ## BAD_COMMAND (R163, step 1) -/

/-- The executor takes a frame whose code names no command and refuses it with the code as detail. -/
def State.takeBadCommand (s : State) : State :=
  match s.chosen with
  | none => s
  | some (l, f) =>
    match Command.ofCode f.code with
    | some _ => s
    | none => s.place l { status := .badCommand, detail := f.code, data := [] }

/-- BAD_COMMAND. -/
def execBadCommand (s : State) : Result := s.happen State.takeBadCommand

end Sys2Proof.Machine
end

