-- ==== Sys2Proof/Machine/Claims.lean ====
section
/-! DEFINITION. CLAIM (Section 2): its ten checks, the allocation of channels, and the effect of an accepted
claim. -/

namespace Sys2Proof.Machine

/-- The lease-level part of a claim, its fields in range, with its blocks (R24). -/
structure ClaimRequest where
  timebase : TimebaseNo
  period : Nat
  prescale : Fin 8
  subscription : FaultSet
  blocks : List ClaimBlock
  deriving DecidableEq, Repr

/-- Whether a period field is 0 or 16 to 4095 (R26). -/
def claimPeriodFits (p : Nat) : Bool := p == 0 || (16 ≤ p && p ≤ 4095)

/-- Step 1: field ranges and structure (R26, R27). The number of blocks carried is that of the parameter
length, which the common checks have passed. -/
def readClaim (params : List Byte) : Except Reject ClaimRequest := do
  let timebase ← need (indexOf 4 (arg params 1)) .badArgument 0xFF
  check (claimPeriodFits (arg2 params 2)) .badArgument 0xFF
  let prescale ← need (indexOf 8 (arg params 4)) .badArgument 0xFF
  let subscription ← need (FaultSet.ofNat (arg params 5)) .badArgument 0xFF
  check (1 ≤ arg params 6 && arg params 6 ≤ 4 && arg params 6 == (params.length - 7) / 7) .badArgument 0xFF
  let blocks ← readClaimBlocks params [] 0 (arg params 6)
  .ok { timebase, period := arg2 params 2, prescale, subscription, blocks }

/-- Every pin a claim names. -/
def ClaimRequest.pins (q : ClaimRequest) : List PinNo := q.blocks.flatMap ClaimBlock.pins

/-- Step 4: the lowest owned pin among those the claim names (R29). -/
def State.lowestOwnedNamed (s : State) (q : ClaimRequest) : Option PinNo :=
  (List.finRange 24).find? fun p => q.pins.contains p && s.pins[p].owner.isSome

/-- Step 4: every named pin unowned (R29). -/
def State.checkPins (s : State) (q : ClaimRequest) : Except Reject Unit :=
  match s.lowestOwnedNamed q with
  | none => .ok ()
  | some p => .error { status := .pinTaken, detail := byte p.val }

/-- Step 5 for one block: only a complementary block is examined (R30). -/
def ClaimBlock.safeFits (b : ClaimBlock) : Bool :=
  b.complementPin.isNone || safePairFits b.settings.polarity b.safe b.complementSafe

/-- Step 6: agreement with the timebase; answers the governing period (R31, R32). -/
def State.checkTimebase (s : State) (q : ClaimRequest) : Except Reject Nat :=
  match s.timebases[q.timebase].run with
  | none => if q.period = 0 then .error { status := .badArgument, detail := 0xFF } else .ok q.period
  | some r =>
    if q.period = 0 then .ok r.coming
    else if q.period = r.coming then
      if q.prescale = s.timebases[q.timebase].prescale then .ok r.coming
      else .error { status := .periodConflict, detail := 0x02 }
    else if q.prescale = s.timebases[q.timebase].prescale then
      .error { status := .periodConflict, detail := 0x01 }
    else .error { status := .periodConflict, detail := 0x03 }

/-- Step 7 for one block: its duty fits the governing period and, on a running timebase, the period in force
(R32). -/
def State.claimDutyFits (s : State) (q : ClaimRequest) (governing : Nat) (b : ClaimBlock) : Bool :=
  b.settings.duty ≤ governing &&
    match s.timebases[q.timebase].run with
    | none => true
    | some r => b.settings.duty ≤ r.period

/-- Step 9: the set latches that would reach the claim (R34). -/
def State.latchesAgainst (s : State) (sub : FaultSet) : SourceSet :=
  { flt0 := s.trip.flt0.latch && sub.flt0, flt1 := s.trip.flt1.latch && sub.flt1,
    supply := s.trip.supplyLatch, halt := s.trip.haltLatch, lapse := false }

/-! ## Step 10: channel allocation (R35, R36) -/

/-- The free channels of a map, ascending (R35). -/
def freeChannels (map : Vector (Option Place) 12) : List ChannelNo :=
  (List.finRange 12).filter fun c => map[c].isNone

/-- The odd channel after an even one; a pair is found by its even channel (R35). -/
def oddPartner (c : ChannelNo) : ChannelNo := c + 1

/-- The lowest-numbered even channel that is free and whose odd partner is free too (R35). -/
def lowestPair (free : List ChannelNo) : Option ChannelNo :=
  free.find? fun c => c.val % 2 == 0 && free.contains (oddPartner c)

/-- Pass 1: the complementary bindings, in binding-index order. Answers their channels by index and the
channels left, or the index that found no pair (R35, R36). -/
def placePairs : (i : Nat) → List Bool → List ChannelNo → Except Nat (List (Nat × ChannelNo) × List ChannelNo)
  | _, [], free => .ok ([], free)
  | i, false :: rest, free => placePairs (i + 1) rest free
  | i, true :: rest, free =>
    match lowestPair free with
    | none => .error i
    | some c =>
      match placePairs (i + 1) rest (free.filter fun x => x != c && x != oddPartner c) with
      | .error k => .error k
      | .ok (placed, left) => .ok ((i, c) :: placed, left)

/-- Pass 2: the single bindings, in binding-index order, each on the lowest free channel (R35, R36). -/
def placeSingles : (i : Nat) → List Bool → List ChannelNo → Except Nat (List (Nat × ChannelNo))
  | _, [], _ => .ok []
  | i, true :: rest, free => placeSingles (i + 1) rest free
  | i, false :: rest, free =>
    match free with
    | [] => .error i
    | c :: left =>
      match placeSingles (i + 1) rest left with
      | .error k => .error k
      | .ok placed => .ok ((i, c) :: placed)

/-- The channel placed for each binding by index, or the index that could not be placed; `kinds` says which
bindings are complementary (R35, R36). -/
def allocate (map : Vector (Option Place) 12) (kinds : List Bool) : Except Nat (List (Nat × ChannelNo)) :=
  match placePairs 0 kinds (freeChannels map) with
  | .error k => .error k
  | .ok (pairs, left) =>
    match placeSingles 0 kinds left with
    | .error k => .error k
    | .ok singles => .ok (pairs ++ singles)

/-- The channel placed for a binding index. -/
def placedAt (placed : List (Nat × ChannelNo)) (i : Nat) : ChannelNo :=
  match placed.find? fun x => x.1 == i with
  | none => 0
  | some x => x.2

/-- Step 10 (R35, R36). -/
def State.checkChannels (s : State) (q : ClaimRequest) : Except Reject (List (Nat × ChannelNo)) :=
  match allocate s.channels (q.blocks.map fun b => b.complementPin.isSome) with
  | .ok placed => .ok placed
  | .error k => .error { status := .noChannel, detail := byte k }

/-! ## Performing an accepted claim (R37 to R40) -/

/-- A binding record from its block and its channel; a single binding stores no complement (R37). -/
def ClaimBlock.binding (b : ClaimBlock) (c : ChannelNo) : Binding :=
  { channel := c, pin := b.pin, active := b.settings, drive := b.drive, safe := b.safe
    complement := b.complementPin.map fun p =>
      { channel := oddPartner c, pin := p, safe := b.complementSafe } }

/-- The bindings of a claim in binding-index order (R37). -/
def ClaimRequest.bindings (q : ClaimRequest) (placed : List (Nat × ChannelNo)) : List Binding :=
  q.blocks.zipIdx.map fun x => x.1.binding (placedAt placed x.2)

/-- Which binding of a list, and in which role, a test on each binding's two halves picks. -/
def findPlace (n : LeaseNo) (bs : List Binding) (primary : Binding → Bool) (complement : Complement → Bool) :
    Option (Place × Binding) :=
  bs.zipIdx.findSome? fun x =>
    if primary x.1 then some ({ lease := n, index := x.2, role := .primary }, x.1)
    else if x.1.complement.any complement then
      some ({ lease := n, index := x.2, role := .complement }, x.1)
    else none

/-- The place a claim's bindings give a channel (R37). -/
def placeOfChannel (n : LeaseNo) (bs : List Binding) (c : ChannelNo) : Option (Place × Binding) :=
  findPlace n bs (fun b => b.channel == c) (fun k => k.channel == c)

/-- The place a claim's bindings give a pin (R38). -/
def placeOfPin (n : LeaseNo) (bs : List Binding) (p : PinNo) : Option (Place × Binding) :=
  findPlace n bs (fun b => b.pin == p) (fun k => k.pin == p)

/-- The record of a claimed lease (R37). -/
def ClaimRequest.record (q : ClaimRequest) (n : SessionNo) (bs : List Binding) : LeaseRecord :=
  { holder := n, timebase := q.timebase, subscription := q.subscription, bindings := bs, generation := 0,
    phase := .armed }

/-- A timebase that a claim finds IDLE is started: its period, prescale and holder set and start pending set;
a running one keeps all of them (R39, R40, R51). -/
def Timebase.start (t : Timebase) (period : Nat) (prescale : Fin 8) (holder : LeaseNo) : Timebase :=
  match t.run with
  | some _ => t
  | none =>
    { t with prescale := prescale
             run := some { period := period, staged := none, holder := holder, startPending := true } }

/-- An accepted claim in one happening (R37 to R40): the lease record with the counts that follow it, the
channel map, the engines loaded and HELD, the pins taken and the timebase joined or started. -/
def State.performClaim (s : State) (n : SessionNo) (q : ClaimRequest) (k : LeaseNo)
    (bs : List Binding) : State :=
  let s1 : State :=
    { s with
      channels := mapTable
        (fun c old => match placeOfChannel k bs c with | none => old | some x => some x.1) s.channels
      engines := mapTable
        (fun c old => match placeOfChannel k bs c with
          | none => old
          | some x => .held { place := x.1, active := x.2.active, staged := none }) s.engines
      pins := mapTable
        (fun p old => match placeOfPin k bs p with
          | none => old
          | some x => { old with owner := some { place := x.1, drive := x.2.drive }
                                 level := x.2.safeFor x.1.role }) s.pins }
  let s2 := s1.putLease k (some (q.record n bs))
  s2.setTimebase q.timebase (s2.timebases[q.timebase].start q.period q.prescale k)

/-- The data of an accepted claim's response (R41, R171). -/
def claimData (k : LeaseNo) (started : Bool) (governing : Nat) (bs : List Binding) : List Byte :=
  [byte k.val, Phase.armed.code, flagByte started] ++ twoBytes governing ++ [byte bs.length]
    ++ bs.flatMap fun b => [byte b.channel.val, indexByte (b.complement.map (·.channel))]

/-- CLAIM's ten checks in order and its effect (R25 to R41). -/
def performClaimCommand (s : State) (n : SessionNo) (params : List Byte) : Performed := do
  let q ← readClaim params
  let k ← need s.lowestFreeLease .noLeaseSpace 0
  check (s.heldCount n != s.sessions[n].elim 0 (·.quota)) .quota (byte (s.sessions[n].elim 0 (·.quota)))
  s.checkPins q
  checkEach ClaimBlock.safeFits q.blocks .badSafe
  let governing ← s.checkTimebase q
  checkEach (s.claimDutyFits q governing) q.blocks .dutyRange
  checkEach (fun b => s.gateRunning b.settings.gate) q.blocks .carrierOff
  check (s.latchesAgainst q.subscription == SourceSet.empty) .faultActive
    (s.latchesAgainst q.subscription).toByte
  let placed ← s.checkChannels q
  let bs := q.bindings placed
  .ok (s.performClaim n q k bs,
    goodResponse (claimData k s.timebases[q.timebase].run.isNone governing bs))

/-- CLAIM. -/
def execClaim (s : State) : Result := s.happen fun s => s.takeSession .claim performClaimCommand

end Sys2Proof.Machine
end

