-- ==== Sys2Proof/Machine/Leases.lean ====
section
/-! DEFINITION. AMEND and RETIRE (Section 4) and the lookups QUERY LEASE, LIST LEASES and FIND BY PIN
(Section 1.8). -/

namespace Sys2Proof.Machine

/-! ## AMEND (R68 to R74) -/

/-- AMEND is accepted on a RUNNING or AMEND_PENDING lease (R14). -/
def Phase.amendable : Phase → Bool
  | .running => true
  | .amendPending _ => true
  | .armed => false
  | .draining _ => false
  | .tripped _ _ => false

/-- The coming period of a lease's timebase (R71). -/
def State.comingPeriod (s : State) (tb : TimebaseNo) : Nat :=
  match s.timebases[tb].run with
  | none => 0
  | some r => r.coming

/-- Step 6 of AMEND for one binding under its new polarity (R72). -/
def amendSafeFits (x : Binding × Settings) : Bool :=
  match x.1.complement with
  | none => true
  | some k => safePairFits x.2.polarity x.1.safe k.safe

/-- An engine given the staged settings of its binding (R73, R74). -/
def Engine.stage (staged : List Settings) (e : Engine) : Engine :=
  e.mapUse fun u => { u with staged := staged[u.place.index]? }

/-- An accepted AMEND: the staged change created or replaced whole, the engines' staged settings written, the
carrier counts recounted and the lease AMEND_PENDING (R73, R74). -/
def State.stageChange (s : State) (k : LeaseNo) (r : LeaseRecord) (staged : List Settings) : State :=
  (s.mapEngines fun n e => if n = k then e.stage staged else e).putLease k
    (some { r with phase := .amendPending staged })

/-- AMEND's checks in order and its effect (R69 to R74). -/
def performAmend (s : State) (n : SessionNo) (params : List Byte) : Performed := do
  let k ← readLease params
  s.checkHolder n k false
  let r ← checkPhase s.leases[k] Phase.amendable
  check (arg params 2 == (params.length - 3) / 4 && arg params 2 == r.bindings.length) .badArgument 0xFF
  let staged ← readAmendBlocks params 0 r.bindings
  checkEach (fun st => decide (st.duty ≤ s.comingPeriod r.timebase)) staged .dutyRange
  checkEach amendSafeFits (r.bindings.zip staged) .badSafe
  checkEach (fun st => s.gateRunning st.gate) staged .carrierOff
  .ok (s.stageChange k r staged,
    goodResponse ([byte k.val, (Phase.amendPending staged).code, r.generation]
      ++ twoBytes (s.comingPeriod r.timebase)))

/-- AMEND. -/
def execAmend (s : State) : Result := s.happen fun s => s.takeSession .amend performAmend

/-! ## RETIRE (R77 to R80) -/

/-- A retire mode with its step (R77). -/
inductive RetireMode where
  | immediate | atBoundary | ramp (step : Nat)
  deriving DecidableEq, Repr

/-- The mode and step fields; the step is examined for RAMP alone, where it is 1 to 255 (R12, R77). -/
def readRetireMode (mode step : Nat) : Option RetireMode :=
  match mode with
  | 0 => some .immediate
  | 1 => some .atBoundary
  | 2 => if step = 0 then none else some (.ramp step)
  | _ => none

/-- The states RETIRE accepts: IMMEDIATE any non-FREE one, the others any but DRAINING (R14). -/
def RetireMode.accepts (m : RetireMode) : Phase → Bool
  | .draining _ =>
    match m with
    | .immediate => true
    | .atBoundary => false
    | .ramp _ => false
  | .armed => true
  | .running => true
  | .amendPending _ => true
  | .tripped _ _ => true

/-- The plan of a retire that drains a RUNNING or AMEND_PENDING lease; none where it frees the lease at once
(R78). -/
def RetireMode.plan (m : RetireMode) (p : Phase) : Option RetirePlan :=
  match m with
  | .immediate => none
  | .atBoundary => if p.amendable then some .atBoundary else none
  | .ramp step => if p.amendable then some (.ramp step) else none

/-- The start of a drain: a staged change discarded, the retire plan set (R11, R80). -/
def State.startDrain (s : State) (k : LeaseNo) (r : LeaseRecord) (plan : RetirePlan) : State :=
  (s.mapEngines fun n e => if n = k then e.dropStage else e).putLease k
    (some { r with phase := .draining plan })

/-- An accepted RETIRE: the lease freed at once, or draining (R78 to R80). -/
def State.retireLease (s : State) (k : LeaseNo) (r : LeaseRecord) (m : RetireMode) : State :=
  match m.plan r.phase with
  | none => s.teardown k
  | some plan => s.startDrain k r plan

/-- RETIRE's checks, which are the lease guard, and its effect (R12, R77, R78). -/
def performRetire (s : State) (n : SessionNo) (params : List Byte) : Performed := do
  let k ← readLease params
  s.checkHolder n k true
  let m ← need (readRetireMode (arg params 2) (arg params 3)) .badArgument 0xFF
  let r ← checkPhase s.leases[k] m.accepts
  let s1 := s.retireLease k r m
  .ok (s1, goodResponse ([byte k.val, leaseCode s1.leases[k]] ++ planBytes s1.leases[k]))

/-- RETIRE. -/
def execRetire (s : State) : Result := s.happen fun s => s.takeSession .retire performRetire

/-! ## Lookups (R18 to R22) -/

/-- QUERY LEASE: the ACTIVE view of any lease, the STAGED view of an AMEND_PENDING one (R12, R14, R19, R20). -/
def performQueryLease (s : State) (_n : SessionNo) (params : List Byte) : Performed := do
  let k ← readLease params
  check (arg params 2 == 0 || arg params 2 == 1) .badArgument 0xFF
  if arg params 2 = 0 then .ok (s, goodResponse (leaseBytesActive k s.leases[k]))
  else do
    let r ← checkPhase s.leases[k]
      (fun p => match p with | .amendPending _ => true | .armed => false | .running => false
                             | .draining _ => false | .tripped _ _ => false)
    .ok (s, goodResponse (leaseBytesStaged k r))

/-- QUERY_LEASE. -/
def execQueryLease (s : State) : Result := s.happen fun s => s.takeSession .queryLease performQueryLease

/-- The non-FREE leases a session holds, ascending (R21). -/
def State.heldLeases (s : State) (n : SessionNo) : List LeaseNo :=
  (List.finRange 16).filter fun k => heldBy s.leases[k] n

/-- LIST LEASES (R21). -/
def performListLeases (s : State) (_n : SessionNo) (params : List Byte) : Performed := do
  let j ← need (indexOf 8 (arg params 1)) .badArgument 0xFF
  .ok (s, goodResponse ([byte j.val, byte (s.heldCount j)]
    ++ (s.heldLeases j).flatMap fun k => [byte k.val, leaseCode s.leases[k]]))

/-- LIST_LEASES. -/
def execListLeases (s : State) : Result := s.happen fun s => s.takeSession .listLeases performListLeases

/-- The owner, index and role fields of FIND BY PIN, none for an unowned pin (R22, R171). -/
def ownerBytes (p : PinEntry) : List Byte :=
  match p.owner with
  | none => [0xFF, 0xFF, 0xFF]
  | some o => [byte o.place.lease.val, byte o.place.index, o.place.role.code]

/-- FIND BY PIN (R22). -/
def performFindByPin (s : State) (_n : SessionNo) (params : List Byte) : Performed := do
  let p ← need (indexOf 24 (arg params 1)) .badArgument 0xFF
  .ok (s, goodResponse (byte p.val :: ownerBytes s.pins[p] ++ [s.pins[p].level.code, s.pins[p].rest.code]))

/-- FIND_BY_PIN. -/
def execFindByPin (s : State) : Result := s.happen fun s => s.takeSession .findByPin performFindByPin

end Sys2Proof.Machine
end

