-- ==== Sys2Proof/Machine/Links.lean ====
section
/-! DEFINITION. The Host Links (Section 9): a transaction from chip select falling to chip select rising, and the
four rows COMMAND_FRAME, FETCH, CLEAR_LINK and IGNORED_TRANSACTION. -/

namespace Sys2Proof.Machine

/-! ## Parts of a transaction -/

/-- Chip select falls: the status byte is taken as it stands (R154). While a full reset is held the transaction
is ignored up to its chip select rising (R153, R166). -/
def State.selectLink (s : State) (l : Link) : State :=
  match (s.link l).transaction with
  | some _ => s
  | none =>
    s.setLink l { s.link l with
      out := []
      transaction := some (if s.resetHeld then .ignored (some (s.statusByte l)) else .selected (s.statusByte l)) }

/-- Bytes shifted out after the status byte of an ignored transaction: free values (log 5). -/
def State.shiftFree (s : State) (l : Link) (n : Nat) : State :=
  { s.setLink l { s.link l with
      out := (s.link l).out ++ (List.range n).map fun i => Config.freeByte (s.freeCount + i) } with
    freeCount := s.freeCount + n }

/-- Whole bytes exchanged in an ignored transaction: the status byte where it is still due, since it is the first
byte of every transaction (R153, R168), and then free values. While a full reset is held the data-out line is
not driven (R166): no byte is sent, and the place of the status byte passes with the first. -/
def State.shiftIgnored (s : State) (l : Link) (due : Option Byte) (n : Nat) : State :=
  match due, n with
  | none, n => if s.resetHeld then s else s.shiftFree l n
  | some _, 0 => s
  | some st, n + 1 =>
    if s.resetHeld then s.setLink l { s.link l with transaction := some (.ignored none) }
    else
      (s.setLink l { s.link l with
        transaction := some (.ignored none), out := (s.link l).out ++ [st] }).shiftFree l n

/-- The first whole byte selects the kind of transaction, and the status byte is shifted out with it (R153). A
command frame fills an IDLE slot and is refused whole by another (R156, R157); the state of the slot when a
FETCH's 80h is received decides the whole FETCH (R159). -/
def State.firstByte (s : State) (l : Link) (b : Byte) : State :=
  let p := s.link l
  match p.transaction with
  | some (.selected st) =>
    match transactionRow b with
    | .frame =>
      if p.slot = .idle then
        s.setLink l { p with slot := .filling [b], transaction := some .frame, out := [st] }
      else s.setLink l { p with transaction := some .refusedFrame, out := [st] }
    | .fetch => s.setLink l { p with transaction := some (.fetch p.slot.isDone), out := [st] }
    | .clear => s.setLink l { p with transaction := some (.clear none), out := [st] }
    | .ignored => s.setLink l { p with transaction := some (.ignored none), out := [st] }
  | some (.ignored due) => s.shiftIgnored l due 1
  | some .frame => s
  | some .refusedFrame => s
  | some (.fetch _) => s
  | some (.clear _) => s
  | none => s

/-- The byte of a response frame at an offset, 00h past its end (R158). -/
def Slot.responseByte (sl : Slot) (i : Nat) : Byte :=
  match sl with
  | .done r => r.bytes.getD i 0
  | .idle => 0
  | .filling _ => 0
  | .queued _ => 0

/-- Further whole bytes, each shifted in as one is shifted out (R153, R158, R160, R168). -/
def State.moreBytes (s : State) (l : Link) (bs : List Byte) : State :=
  let p := s.link l
  match p.transaction with
  | some .frame =>
    match p.slot with
    | .filling received =>
      s.setLink l { p with slot := .filling (received ++ bs), out := p.out ++ List.replicate bs.length 0 }
    | .idle => s
    | .queued _ => s
    | .done _ => s
  | some .refusedFrame => s.setLink l { p with out := p.out ++ List.replicate bs.length 0 }
  | some (.fetch live) =>
    s.setLink l { p with
      out := p.out ++ (List.range bs.length).map fun i =>
        if live then p.slot.responseByte (p.out.length - 1 + i) else 0 }
  | some (.clear flag) =>
    s.setLink l { p with
      transaction := some (.clear (flag.or bs.head?))
      out := p.out ++ List.replicate bs.length 0 }
  | some (.ignored due) => s.shiftIgnored l due bs.length
  | some (.selected _) => s
  | none => s

/-! ## Judging at chip select rising -/

/-- A received frame judged: the frame to queue, or the detail of FRAME_FAULT (R156). The tests run in the
manual's order: length field missing or above 48, short, long, check byte wrong. -/
def judgeFrame (received : List Byte) : Except Byte Frame :=
  match received with
  | [] => .error 0x03
  | [_] => .error 0x03
  | code :: n :: rest =>
    if 48 < n.toNat then .error 0x03
    else if received.length < n.toNat + 3 then .error 0x01
    else if n.toNat + 3 < received.length then .error 0x02
    else if byteSum received ≠ 0 then .error 0x04
    else .ok { code := code, params := rest.take n.toNat }

/-- The link after a frame that filled its slot is judged (R156). -/
def LinkPort.judged (p : LinkPort) (received : List Byte) : LinkPort :=
  match judgeFrame received with
  | .ok f => { p with slot := .queued f, refused := false }
  | .error d => { p with slot := .done { status := .frameFault, detail := d, data := [] } }

/-- Whether a FETCH has clocked the whole response: the status byte and then all M + 4 bytes (R158). -/
def LinkPort.fetchedWhole (p : LinkPort) : Bool :=
  match p.slot with
  | .done r => r.bytes.length < p.out.length
  | .idle => false
  | .filling _ => false
  | .queued _ => false

/-- Every OPEN session of a link lapses (R141, R160). -/
def State.lapseLink (s : State) (l : Link) : State :=
  (List.finRange 8).foldl
    (fun s n => if s.sessions[n].any (fun r => r.link == l) then s.lapseSession n else s) s

/-- A CLEAR LINK taken: the slot IDLE, the refused flag clear and, with drop, the link's OPEN sessions lapsed
(R160). -/
def State.clearedLink (s : State) (l : Link) (drop : Bool) : State :=
  let s1 := s.setLink l { s.link l with slot := .idle, refused := false }
  if drop then s1.lapseLink l else s1

/-- The link's transaction over (R153). -/
def State.endTransaction (s : State) (l : Link) : State :=
  s.setLink l { s.link l with transaction := none }

/-- Chip select rises (R156 to R160). -/
def State.riseLink (s : State) (l : Link) : State :=
  let p := s.link l
  match p.transaction with
  | none => s
  | some .frame =>
    match p.slot with
    | .filling received => (s.setLink l (p.judged received)).endTransaction l
    | .idle => s.endTransaction l
    | .queued _ => s.endTransaction l
    | .done _ => s.endTransaction l
  | some .refusedFrame => (s.setLink l { p with refused := true }).endTransaction l
  | some (.fetch live) =>
    if live && p.fetchedWhole then (s.setLink l { p with slot := .idle }).endTransaction l
    else s.endTransaction l
  | some (.clear none) => s.endTransaction l
  | some (.clear (some flag)) =>
    if flag = 0 then (s.clearedLink l false).endTransaction l
    else if flag = 1 then (s.clearedLink l true).endTransaction l
    else s.endTransaction l
  | some (.ignored _) => s.endTransaction l
  | some (.selected _) => s.endTransaction l

/-! ## The rows -/

/-- A CLEAR LINK that ends before its drop-flag byte, or whose drop-flag byte is neither 00h nor 01h, is ignored
(R160). -/
def ignoredFlag (flag : Option Byte) : Bool :=
  match flag with
  | none => true
  | some b => b ≠ 0 && b ≠ 1

/-- Whether a transaction is ignored. -/
def Transaction.isIgnored : Transaction → Bool
  | .ignored _ => true
  | .selected _ => false
  | .frame => false
  | .refusedFrame => false
  | .fetch _ => false
  | .clear _ => false

/-- The row a transaction in progress belongs to; one whose first byte is to come, or that a reset has made
ignored, may go on under any row. -/
def Transaction.ofRow (t : Transaction) (row : TransactionRow) : Bool :=
  match t with
  | .selected _ => true
  | .ignored _ => true
  | .frame => row = .frame
  | .refusedFrame => row = .frame
  | .fetch _ => row = .fetch
  | .clear flag => row = .clear || (row = .ignored && ignoredFlag flag)

/-- A first byte belongs to a row when it selects that kind; any byte belongs to an ignored transaction when the
transaction fell while a full reset was held (R153). -/
def State.firstOfRow (s : State) (l : Link) (row : TransactionRow) (b : Byte) : Bool :=
  decide (transactionRow b = row)
    || (decide (row = .ignored) && (s.link l).transaction.any Transaction.isIgnored)

/-- A transaction with nothing between its parts. -/
def State.wholeTransaction (s : State) (l : Link) (b : Byte) (rest : List Byte) : State :=
  (((s.selectLink l).firstByte l b).moreBytes l rest).riseLink l

/-- Part of a transaction of a row, or the whole of one. A part that belongs to another row, or a whole one while
a transaction of the link is in progress, does not come about under this row (DESIGN CHOICE, safe, log 6). -/
def State.transact (s : State) (row : TransactionRow) (l : Link) (m : Moment) : State :=
  match m with
  | .whole b rest =>
    if (s.link l).transaction = none
        && ((s.selectLink l).firstOfRow l row b
          || (row = .ignored && transactionRow b = .clear && ignoredFlag rest.head?)) then
      s.wholeTransaction l b rest
    else s
  | .select => s.selectLink l
  | .first b => if s.firstOfRow l row b then s.firstByte l b else s
  | .more bs => if (s.link l).transaction.any (·.ofRow row) then s.moreBytes l bs else s
  | .rise => if (s.link l).transaction.any (·.ofRow row) then s.riseLink l else s

/-- COMMAND_FRAME (R156, R157). -/
def execCommandFrame (l : Link) (m : Moment) (s : State) : Result := .next (s.transact .frame l m).refresh

/-- FETCH (R158, R159). -/
def execFetch (l : Link) (m : Moment) (s : State) : Result := .next (s.transact .fetch l m).refresh

/-- CLEAR_LINK (R160). -/
def execClearLink (l : Link) (m : Moment) (s : State) : Result := .next (s.transact .clear l m).refresh

/-- IGNORED_TRANSACTION (R153). -/
def execIgnoredTransaction (l : Link) (m : Moment) (s : State) : Result :=
  .next (s.transact .ignored l m).refresh

end Sys2Proof.Machine
end

