-- ==== Sys2Proof/Machine/Outputs.lean ====
section
/-! DEFINITION. SET PIN REST, SET CARRIER and CARRIER_EDGE (Section 5). -/

namespace Sys2Proof.Machine

/-- A pin given a rest level, which an unowned pin shows at once (R97). -/
def PinEntry.setRest (p : PinEntry) (l : Level) : PinEntry :=
  match p.owner with
  | none => { p with rest := l, level := l }
  | some _ => { p with rest := l }

/-- The owner lease field of SET PIN REST, FFh for an unowned pin (R97). -/
def ownerByte (p : PinEntry) : Byte := indexByte (p.owner.map (·.place.lease))

/-- SET PIN REST (R97). -/
def performSetPinRest (s : State) (n : SessionNo) (params : List Byte) : Performed := do
  s.checkConfigure n
  let p ← need (indexOf 24 (arg params 1)) .badArgument 0xFF
  let l ← need (Level.ofCode (arg params 2)) .badArgument 0xFF
  let e := s.pins[p].setRest l
  .ok ({ s with pins := putAt s.pins p e }, goodResponse [byte p.val, l.code, ownerByte e, e.level.code])

/-- SET_PIN_REST. -/
def execSetPinRest (s : State) : Result := s.happen fun s => s.takeSession .setPinRest performSetPinRest

/-- SET CARRIER: the divider written and the level low, which stops the carrier or begins its low half
(R99, R101). -/
def performSetCarrier (s : State) (n : SessionNo) (params : List Byte) : Performed := do
  s.checkConfigure n
  let c ← need (carrierOfCode (arg params 1)) .badArgument 0xFF
  check (arg2 params 2 ≤ 1023) .badArgument 0xFF
  check ((s.carrier c).inUse == 0) .inUse (byte (s.carrier c).inUse)
  .ok (s.setCarrierUnit c { s.carrier c with divider := arg2 params 2, high := false },
    goodResponse ([byte (arg params 1)] ++ twoBytes (arg2 params 2) ++ [byte (s.carrier c).inUse]))

/-- SET_CARRIER. -/
def execSetCarrier (s : State) : Result := s.happen fun s => s.takeSession .setCarrier performSetCarrier

/-- CARRIER_EDGE: a RUNNING carrier toggles its level; a STOPPED one has no edge (R99, log 6). -/
def execCarrierEdge (c : Carrier) (s : State) : Result :=
  s.happen fun s =>
    if (s.carrier c).divider = 0 then s
    else s.setCarrierUnit c { s.carrier c with high := !(s.carrier c).high }

end Sys2Proof.Machine
end

