-- ==== Sys2Proof/Machine/Sessions.lean ====
section
/-! DEFINITION. Sessions and notices: OPEN SESSION, RENEW, CLOSE SESSION, ADOPT, QUERY SESSION, READ NOTICES,
and the session timers TICK, LAPSE and HOLD_EXPIRY (Sections 7 and 8). -/

namespace Sys2Proof.Machine

/-! ## OPEN SESSION (R125, R126) -/

/-- The fields of OPEN SESSION in range (R125, step 1). -/
structure OpenRequest where
  cls : SessionClass
  interval : Nat
  quota : Nat
  mask : KindSet
  deriving DecidableEq, Repr

/-- Step 1 of OPEN SESSION: class, interval 1 to 255, quota 1 to 16, mask of the six kinds. -/
def readOpenRequest (params : List Byte) : Option OpenRequest := do
  let cls ← SessionClass.ofCode (arg params 0)
  let mask ← KindSet.ofNat (arg params 3)
  if 1 ≤ arg params 1 ∧ 1 ≤ arg params 2 ∧ arg params 2 ≤ 16
  then some { cls, interval := arg params 1, quota := arg params 2, mask }
  else none

/-- The record OPEN SESSION makes: OPEN, its remaining time the interval, its notice set empty (R126). -/
def OpenRequest.record (q : OpenRequest) (l : Link) : SessionRecord :=
  { cls := q.cls, link := l, interval := q.interval, status := .opened q.interval, quota := q.quota,
    mask := q.mask, notices := Vector.replicate 16 KindSet.empty }

/-- OPEN SESSION's own checks and effect (R125, R126). -/
def performOpenSession (s : State) (l : Link) (params : List Byte) : Performed := do
  let q ← need (readOpenRequest params) .badArgument 0xFF
  check (q.cls == .ordinary || l == .b) .wrongLink 0
  check (q.cls == .ordinary || s.supervisor.isNone) .supervisorExists (indexByte s.supervisor)
  let n ← need s.lowestFreeSession .noSessionSpace 0
  .ok (s.setSession n (some (q.record l)),
    goodResponse [byte n.val, q.cls.code, linkCode l, byte q.interval, byte q.quota, q.mask.toByte])

/-- The executor takes an OPEN SESSION: steps 1 and 2 of the common checks alone apply (R125, R163). -/
def State.takeOpenSession (s : State) : State :=
  match s.chosen with
  | none => s
  | some (l, f) =>
    if f.code = Command.openSession.code then
      let x := settleRefusal s (do checkLength .openSession f; performOpenSession s l f.params)
      x.1.place l x.2
    else s

/-- OPEN_SESSION. -/
def execOpenSession (s : State) : Result := s.happen State.takeOpenSession

/-! ## RENEW (R129) -/

/-- The keep-alive interval of a session. -/
def State.intervalOf (s : State) (n : SessionNo) : Nat :=
  match s.sessions[n] with
  | none => 0
  | some r => r.interval

/-- RENEW changes nothing beyond the renewal of the common checks (R129). -/
def performRenew (s : State) (n : SessionNo) (_params : List Byte) : Performed :=
  .ok (s, goodResponse [byte n.val, byte (s.intervalOf n), byte (s.heldCount n)])

/-- RENEW. -/
def execRenew (s : State) : Result := s.happen fun s => s.takeSession .renew performRenew

/-! ## CLOSE SESSION (R135) -/

/-- CLOSE SESSION tears down every lease of the session and frees its record (R135). -/
def performCloseSession (s : State) (n : SessionNo) (_params : List Byte) : Performed :=
  .ok (s.closeSession n, goodResponse [byte n.val, byte (s.heldCount n)])

/-- CLOSE_SESSION. -/
def execCloseSession (s : State) : Result :=
  s.happen fun s => s.takeSession .closeSession performCloseSession

/-! ## ADOPT (R137, R138) -/

/-- The quota of a session. -/
def State.quotaOf (s : State) (n : SessionNo) : Nat :=
  match s.sessions[n] with
  | none => 0
  | some r => r.quota

/-- ADOPT's state check: a non-FREE lease whose holder is LAPSED (R14, R137). -/
def State.checkAdoptable (s : State) (k : LeaseNo) : Except Reject LeaseRecord :=
  match s.leases[k] with
  | none => .error { status := .wrongState, detail := leaseCode none }
  | some r =>
    if s.isLapsed r.holder then .ok r
    else .error { status := .wrongState, detail := leaseCode (some r) }

/-- ADOPT: the supervisor becomes the holder, all else of the lease kept, and ADOPTED is recorded for the
session that held it (R138). -/
def performAdopt (s : State) (n : SessionNo) (params : List Byte) : Performed := do
  let k ← readLease params
  s.checkSupervisor n
  let r ← s.checkAdoptable k
  check (s.heldCount n != s.quotaOf n) .quota (byte (s.quotaOf n))
  let s1 := (s.recordFor r.holder k { KindSet.empty with adopted := true }).putLease k
    (some { r with holder := n })
  .ok (s1, goodResponse [byte k.val, r.phase.code, byte r.holder.val, r.causes.toByte,
    byte (s1.heldCount n)])

/-- ADOPT. -/
def execAdopt (s : State) : Result := s.happen fun s => s.takeSession .adopt performAdopt

/-! ## QUERY SESSION (R142) -/

/-- The number of entries in a notice set (R144). -/
def SessionRecord.noticeCount (r : SessionRecord) : Nat :=
  ((List.finRange 16).filter fun k => decide (r.notices[k] ≠ KindSet.empty)).length

/-- QUERY SESSION data of a subject (R142, R171). -/
def State.sessionBytes (s : State) (n : SessionNo) : List Byte :=
  match s.sessions[n] with
  | none => [byte n.val, 0, 0xFF, 0xFF, 0, 0, 0, 0, 0, byte (s.heldCount n), 0, 0]
  | some r =>
    [byte n.val, r.status.code, r.cls.code, linkCode r.link, byte r.interval]
      ++ (match r.status with
          | .opened t => byte t :: twoBytes 0
          | .lapsed h => 0 :: twoBytes h)
      ++ [byte r.quota, byte (s.heldCount n), r.mask.toByte, byte r.noticeCount]

/-- QUERY SESSION (R142). -/
def performQuerySession (s : State) (_n : SessionNo) (params : List Byte) : Performed := do
  let k ← need (indexOf 8 (arg params 1)) .badArgument 0xFF
  .ok (s, goodResponse (s.sessionBytes k))

/-- QUERY_SESSION. -/
def execQuerySession (s : State) : Result :=
  s.happen fun s => s.takeSession .querySession performQuerySession

/-! ## READ NOTICES (R149) -/

/-- The entries of a notice set in ascending order of lease number: lease and kinds (R149, R171). -/
def SessionRecord.noticeBytes (r : SessionRecord) : List Byte :=
  ((List.finRange 16).filter fun k => decide (r.notices[k] ≠ KindSet.empty)).flatMap
    fun k => [byte k.val, r.notices[k].toByte]

/-- READ NOTICES takes the issuing session's set whole and empties it (R149). -/
def performReadNotices (s : State) (n : SessionNo) (_params : List Byte) : Performed :=
  match s.sessions[n] with
  | none => .ok (s, goodResponse [0])
  | some r =>
    .ok (s.setSession n (some { r with notices := Vector.replicate 16 KindSet.empty }),
      goodResponse (byte r.noticeCount :: r.noticeBytes))

/-- READ_NOTICES. -/
def execReadNotices (s : State) : Result :=
  s.happen fun s => s.takeSession .readNotices performReadNotices

/-! ## Session timers (R130, R131, R134) -/

/-- Every session's timer happening of one tick, in ascending order (DESIGN CHOICE, safe, log 7: the manual
gives no order and the outcome is the same in every order). -/
def State.tickAll (s : State) : State :=
  (List.finRange 8).foldl (fun s n => s.timerHappening n) s

/-- TICK: the timer happenings of every session, or of the one named (R130, log 7). -/
def execTick (who : Option SessionNo) (s : State) : Result :=
  s.happen fun s =>
    match who with
    | none => s.tickAll
    | some n => s.timerHappening n

/-- Whether a session's next timer happening is its lapse (R130, R131). -/
def State.lapseDue (s : State) (n : SessionNo) : Bool :=
  s.sessions[n].any fun r => match r.status with | .opened t => t ≤ 1 | .lapsed _ => false

/-- Whether a session's next timer happening is its hold expiry (R130, R134). -/
def State.expiryDue (s : State) (n : SessionNo) : Bool :=
  s.sessions[n].any fun r => match r.status with | .opened _ => false | .lapsed h => h ≤ 1

/-- LAPSE: the timer happening that brings an OPEN session's remaining time to 0 (R131). A session with more
time left does not lapse (log 6). -/
def execLapse (n : SessionNo) (s : State) : Result :=
  s.happen fun s => if s.lapseDue n then s.lapseSession n else s

/-- HOLD_EXPIRY: the timer happening that brings a LAPSED session's hold remaining to 0 (R134). A session with
more hold left does not expire (log 6). -/
def execHoldExpiry (n : SessionNo) (s : State) : Result :=
  s.happen fun s => if s.expiryDue n then s.closeSession n else s

end Sys2Proof.Machine
end

