-- ==== Sys2Proof/Machine/Supply.lean ====
section
/-! DEFINITION. The supply and the full reset: SUPPLY_FALL, SUPPLY_RISE, FULL_RESET and RESET_RELEASE (R23, R67,
R85, R102, R106, R107, R122, R143, R166, R172). -/

namespace Sys2Proof.Machine

/-! ## Full reset -/

/-- A fault input while a full reset is held: edge FALLING and latch clear (R122). The seen level is kept until
the release takes it afresh (DESIGN CHOICE, safe, log 4). -/
def FaultInput.inReset (x : FaultInput) : FaultInput :=
  { edge := .falling, level := x.level, seen := x.seen, asserted := x.seen = .low, latch := false }

/-- A transaction in progress when a full reset is taken: abandoned, to be ignored to its chip select rising
(R166). Its status byte is still to be sent where its first byte has not come (R153, R168). -/
def Transaction.abandoned : Transaction → Transaction
  | .selected st => .ignored (some st)
  | .frame => .ignored none
  | .refusedFrame => .ignored none
  | .fetch _ => .ignored none
  | .clear _ => .ignored none
  | .ignored due => .ignored due

/-- A link while a full reset is held: slot IDLE, flag clear, line inactive, and a transaction in progress
abandoned (R166). -/
def LinkPort.inReset (p : LinkPort) : LinkPort :=
  { LinkPort.reset with transaction := p.transaction.map Transaction.abandoned }

/-- A full reset taken and held: every table at its reset value, set directly (R23, R67, R85, R102, R122, R143,
R166). What the board and the hosts drive is theirs, and the queue and the free-value counter are the
model's (DESIGN CHOICE, safe, log 14). -/
def State.fullReset (s : State) : State :=
  { State.reset with
    trip := { TripUnit.seeded .high .high with flt0 := s.trip.flt0.inReset, flt1 := s.trip.flt1.inReset }
    supplyMv := s.supplyMv
    rstn := s.rstn
    linkA := s.linkA.inReset
    linkB := s.linkB.inReset
    resetHeld := true
    freeCount := s.freeCount
    pending := s.pending }

/-- FULL_RESET. RSTn held low for 1 µs is taken and stands low until the reset's release; a shorter low pulse is not
taken and changes nothing (R172). A supply at or above the power-on level takes no reset (R106). -/
def execFullReset (cause : ResetCause) (s : State) : Result :=
  match cause with
  | .rstn lowNs => .next (if lowNs < Config.rstnMinNs then s else ({ s with rstn := .low }).fullReset)
  | .powerOn => .next s.fullReset
  | .supply mv => .next (if mv < Config.powerOnMv then ({ s with supplyMv := mv }).fullReset else s)

/-- The release of a full reset: each fault input's seen level taken from the input as it stands and its latch
seeded from it (R122). -/
def State.releaseReset (s : State) : State :=
  { s with
    resetHeld := false
    trip := { s.trip with flt0 := FaultInput.seeded s.trip.flt0.level
                          flt1 := FaultInput.seeded s.trip.flt1.level } }

/-- RESET_RELEASE. The board has RSTn high (R172, log 4), and the reset is released unless the supply has not risen
above the power-on level, when it goes on being held (R106, R172). With no reset held there is none to release
(log 6). -/
def execResetRelease (s : State) : Result :=
  .next (if s.resetHeld then
      if Config.powerOnMv < s.supplyMv then ({ s with rstn := .high }).releaseReset.refresh
      else { s with rstn := .high }
    else s)

/-! ## The supply (R106, R107) -/

/-- The supply falling below the threshold while the supply low condition is no: the condition becomes yes and a
clear latch is set with a trip of SUPPLY (R107). -/
def State.supplyFell (s : State) : State :=
  if s.supplyMv < Config.thresholdMv s.trip.threshold ∧ s.trip.supplyLow = false then
    ({ s with trip := { s.trip with supplyLow := true } }).setSupplyLatch
  else s

/-- SUPPLY_FALL: the supply falls to a level. Below the power-on level the full reset is taken, which wipes the
effects of a supply trip on the way (R106, R107). A level that is no fall changes nothing (log 6). -/
def execSupplyFall (mv : Nat) (s : State) : Result :=
  if mv < s.supplyMv then
    if mv < Config.powerOnMv then .next ({ s with supplyMv := mv }).fullReset
    else if s.resetHeld then .next { s with supplyMv := mv }
    else .next ({ s with supplyMv := mv }).supplyFell.refresh
  else .next s

/-- The supply at or above the threshold plus 100 mV: the supply low condition is no; the latch keeps its value
(R106, R107). -/
def State.supplyRose (s : State) : State :=
  if Config.thresholdMv s.trip.threshold + Config.hysteresisMv ≤ s.supplyMv then
    { s with trip := { s.trip with supplyLow := false } }
  else s

/-- SUPPLY_RISE: the supply rises to a level. While a full reset is held the Trip Unit takes no happening (R122).
A level that is no rise changes nothing (log 6). -/
def execSupplyRise (mv : Nat) (s : State) : Result :=
  if s.supplyMv < mv then
    if s.resetHeld then .next { s with supplyMv := mv }
    else .next ({ s with supplyMv := mv }).supplyRose.refresh
  else .next s

end Sys2Proof.Machine
end

