-- ==== Sys2Proof/Machine/Timebases.lean ====
section
/-! DEFINITION. The Timebase Units (Section 3): COUNT, BOUNDARY, START_BOUNDARY, RETUNE and QUERY TIMEBASE. -/

namespace Sys2Proof.Machine

/-! ## The boundary (R53 to R58) -/

/-- Whether a boundary ends a lease's drain: AT_BOUNDARY, or RAMP with every active duty already 0
(R56, R57). -/
def LeaseRecord.drainEnds (r : LeaseRecord) : Bool :=
  match r.phase with
  | .draining .atBoundary => true
  | .draining (.ramp _) => r.bindings.all fun b => b.active.duty == 0
  | .armed => false
  | .running => false
  | .amendPending _ => false
  | .tripped _ _ => false

/-- Settings with the duty lowered by a ramp step, floored at 0 (R57). -/
def Settings.ramped (st : Settings) (step : Nat) : Settings := { st with duty := st.duty - step }

/-- The bindings with staged settings made active (R55). -/
def commitBindings (bs : List Binding) (staged : List Settings) : List Binding :=
  bs.zipIdx.map fun x => { x.1 with active := staged[x.2]?.getD x.1.active }

/-- A lease record after a boundary of its timebase that does not free it (R54 to R58). -/
def LeaseRecord.atBoundary (r : LeaseRecord) : LeaseRecord :=
  match r.phase with
  | .armed => { r with phase := .running }
  | .amendPending staged =>
    { r with bindings := commitBindings r.bindings staged, generation := r.generation + 1,
             phase := .running }
  | .draining (.ramp step) =>
    { r with bindings := r.bindings.map fun b => { b with active := b.active.ramped step } }
  | .draining .atBoundary => r
  | .running => r
  | .tripped _ _ => r

/-- The notices a boundary records for a bound lease (R53 to R57). -/
def LeaseRecord.boundaryKinds (r : LeaseRecord) (retuned : Bool) : KindSet :=
  { started := decide (r.phase = .armed)
    committed := match r.phase with
      | .amendPending _ => true
      | .armed => false
      | .running => false
      | .draining _ => false
      | .tripped _ _ => false
    retuned := retuned
    tripped := false
    retired := r.drainEnds
    adopted := false }

/-- An engine of a bound lease at the boundary: started, committed or ramped with its lease (R54, R55, R57,
R87, R88). -/
def Engine.atBoundary (r : LeaseRecord) (e : Engine) : Engine :=
  match r.phase with
  | .armed =>
    match e with
    | .held u => .generating u none { inWindow := false, carrier := none }
    | .generating u d o => .generating u d o
    | .unused => .unused
  | .amendPending _ => e.mapUse fun u => { u with active := u.staged.getD u.active, staged := none }
  | .draining (.ramp step) => e.mapUse fun u => { u with active := u.active.ramped step }
  | .draining .atBoundary => e
  | .running => e
  | .tripped _ _ => e

/-- The COMPLEMENT engine's dead-band state under the period in force (R92). -/
def Engine.updateEdges (period : Nat) (e : Engine) : Engine :=
  match e with
  | .unused => .unused
  | .held u => .held u
  | .generating u _ o =>
    match u.place.role with
    | .primary => .generating u none o
    | .complement => .generating u (some (complementEdges u.active period)) o

/-- The timebase at the boundary: the coming period in force, no staged period, start pending clear and the
counter loaded with the period less one (R50, R51, R53). -/
def Timebase.atBoundary (t : Timebase) (r : TimebaseRun) : Timebase :=
  { t with counter := r.coming - 1
           run := some { r with period := r.coming, staged := none, startPending := false } }

/-- Whether a boundary of a timebase frees a table entry. -/
def endsDrain (l : Lease) (tb : TimebaseNo) : Bool :=
  match l with
  | none => false
  | some r => r.timebase == tb && r.drainEnds

/-- The lease table after a boundary's moves, its teardowns still to come. -/
def boundaryLeases (ls : Vector Lease 16) (tb : TimebaseNo) : Vector Lease 16 :=
  mapTable (fun _ l => l.map fun r => if r.timebase = tb then r.atBoundary else r) ls

/-- The kinds a boundary of a timebase records for a lease (R53 to R57, R146). -/
def boundaryKindsOf (l : Lease) (tb : TimebaseNo) (retuned : Bool) : KindSet :=
  match l with
  | none => .empty
  | some r => if r.timebase = tb then r.boundaryKinds retuned else .empty

/-- What a boundary does to an engine of a lease: its move, then its dead-band state (R87, R88, R92). -/
def boundaryEngine (l : Lease) (tb : TimebaseNo) (period : Nat) (e : Engine) : Engine :=
  match l with
  | none => e
  | some r => if r.timebase = tb then (e.atBoundary r).updateEdges period else e

/-- A BOUNDARY of a timebase that is not IDLE, taken whole (R53 to R58): notices, the timebase record, the moves
of every bound lease and its engines, then the teardown of the drains that end. -/
def State.takeBoundary (s : State) (tb : TimebaseNo) (t : TimebaseRun) : State :=
  let s1 := s.recordNotices fun n => boundaryKindsOf s.leases[n] tb t.staged.isSome
  let s2 := s1.mapEngines fun n e => boundaryEngine s.leases[n] tb t.coming e
  let s3 := s2.setLeases (boundaryLeases s.leases tb)
  let s4 := s3.setTimebase tb (s3.timebases[tb].atBoundary t)
  s4.freeLeases fun n => endsDrain s.leases[n] tb

/-- COUNT: a started timebase's counter falls by one; the count after it held 0 is a boundary (R50; DEDUCED, safe,
log 13). A timebase that is IDLE or has its start pending does not count (R51, R52). -/
def execCount (tb : TimebaseNo) (s : State) : Result :=
  s.happen fun s =>
    match s.timebases[tb].run with
    | none => s
    | some t =>
      if t.startPending then s
      else if s.timebases[tb].counter = 0 then s.takeBoundary tb t
      else s.setTimebase tb { s.timebases[tb] with counter := s.timebases[tb].counter - 1 }

/-- BOUNDARY: the count after the counter held 0 (R50, R53). At any other count of the timebase it does not come
about (log 6). -/
def execBoundary (tb : TimebaseNo) (s : State) : Result :=
  s.happen fun s =>
    match s.timebases[tb].run with
    | none => s
    | some t =>
      if t.startPending then s
      else if s.timebases[tb].counter = 0 then s.takeBoundary tb t
      else s

/-- START_BOUNDARY: the first boundary of a timebase that has left IDLE (R51). -/
def execStartBoundary (tb : TimebaseNo) (s : State) : Result :=
  s.happen fun s =>
    match s.timebases[tb].run with
    | none => s
    | some t => if t.startPending then s.takeBoundary tb t else s

/-! ## RETUNE (R60 to R63) -/

/-- The period holder lease of a timebase. -/
def Timebase.holder? (t : Timebase) : Option LeaseNo := t.run.map (·.holder)

/-- Step 2: the session holds the period holder lease, or is the supervisor (R61). -/
def State.mayRetune (s : State) (n : SessionNo) (tb : TimebaseNo) : Bool :=
  s.timebases[tb].holder?.any (fun k => heldBy s.leases[k] n) || s.isSupervisor n

/-- Every active and staged duty of a lease fits a period (R62). -/
def LeaseRecord.dutiesFit (r : LeaseRecord) (period : Nat) : Bool :=
  r.bindings.all (fun b => b.active.duty ≤ period) && r.stagedChange.all (fun st => st.duty ≤ period)

/-- Step 5: the lowest-numbered bound lease with a duty that does not fit (R62). -/
def State.lowestUnfit (s : State) (tb : TimebaseNo) (period : Nat) : Option LeaseNo :=
  (List.finRange 16).find? fun n =>
    match s.leases[n] with
    | none => false
    | some r => r.timebase == tb && !r.dutiesFit period

/-- Step 5 (R62). -/
def State.checkDuties (s : State) (tb : TimebaseNo) (period : Nat) : Except Reject Unit :=
  match s.lowestUnfit tb period with
  | none => .ok ()
  | some n => .error { status := .dutyRange, detail := byte n.val }

/-- RETUNE's checks in order and its effect: the new period staged (R60 to R63). -/
def performRetune (s : State) (n : SessionNo) (params : List Byte) : Performed := do
  let tb ← need (indexOf 4 (arg params 1)) .badArgument 0xFF
  check (s.mayRetune n tb) .notPeriodHolder (indexByte s.timebases[tb].holder?)
  let t ← need s.timebases[tb].run .wrongState 0
  check (16 ≤ arg2 params 2 && arg2 params 2 ≤ 4095) .badArgument 0xFF
  s.checkDuties tb (arg2 params 2)
  .ok (s.setTimebase tb { s.timebases[tb] with run := some { t with staged := some (arg2 params 2) } },
    goodResponse ([byte tb.val] ++ twoBytes t.period ++ twoBytes (arg2 params 2)))

/-- RETUNE. -/
def execRetune (s : State) : Result := s.happen fun s => s.takeSession .retune performRetune

/-! ## QUERY TIMEBASE (R66) -/

/-- QUERY TIMEBASE data (R66, R171). -/
def timebaseBytes (tb : TimebaseNo) (t : Timebase) : List Byte :=
  [byte tb.val, t.code, byte t.prescale.val] ++ periodBytes (t.run.map (·.period))
    ++ periodBytes (t.run.bind (·.staged)) ++ twoBytes t.counter
    ++ [indexByte t.holder?, byte t.refCount]

/-- QUERY TIMEBASE (R66). -/
def performQueryTimebase (s : State) (_n : SessionNo) (params : List Byte) : Performed := do
  let tb ← need (indexOf 4 (arg params 1)) .badArgument 0xFF
  .ok (s, goodResponse (timebaseBytes tb s.timebases[tb]))

/-- QUERY_TIMEBASE. -/
def execQueryTimebase (s : State) : Result :=
  s.happen fun s => s.takeSession .queryTimebase performQueryTimebase

end Sys2Proof.Machine
end

