-- ==== Sys2Proof/Machine/Trips.lean ====
section
/-! DEFINITION. The Trip Unit (Section 6): the fault inputs, the supply monitor, HALT ALL and RELEASE HALT, CLEAR
TRIP, READ FAULTS, SET FAULT EDGE and SET SUPPLY LEVEL. -/

namespace Sys2Proof.Machine

/-! ## CLEAR TRIP (R113 to R115) -/

/-- CLEAR TRIP is accepted on a TRIPPED lease (R14, R113). -/
def Phase.isTripped : Phase → Bool
  | .tripped _ _ => true
  | .armed => false
  | .running => false
  | .amendPending _ => false
  | .draining _ => false

/-- The lease after CLEAR TRIP: the causes that remain, or ARMED with none; freed where retire pending is set and
none remain (R114, R115). -/
def State.clearLease (s : State) (k : LeaseNo) (r : LeaseRecord) : State :=
  if r.causes.inter s.trip.latches ≠ SourceSet.empty then
    s.putLease k (some { r with phase := .tripped (r.causes.inter s.trip.latches) r.retirePending })
  else if r.retirePending then s.teardown k
  else s.putLease k (some { r with phase := .armed })

/-- CLEAR TRIP: the lease guard, then each cause whose latch is clear removed, LAPSE always (R113 to R115). The
status is FAULT_ACTIVE with the causes remaining, or GOOD; both carry data (R164). -/
def performClearTrip (s : State) (n : SessionNo) (params : List Byte) : Performed := do
  let k ← readLease params
  s.checkHolder n k true
  let r ← checkPhase s.leases[k] Phase.isTripped
  let remaining := r.causes.inter s.trip.latches
  let removed := r.causes.diff s.trip.latches
  let s1 := s.clearLease k r
  let data := [byte k.val, leaseCode s1.leases[k], removed.toByte, remaining.toByte]
  .ok (s1, { status := if remaining ≠ SourceSet.empty then .faultActive else .good
             detail := if remaining ≠ SourceSet.empty then remaining.toByte else 0
             data := data })

/-- CLEAR_TRIP. -/
def execClearTrip (s : State) : Result := s.happen fun s => s.takeSession .clearTrip performClearTrip

/-! ## READ FAULTS (R117, R118) -/

/-- A fault input after READ FAULTS: its latch cleared where it is masked and not asserted (R118). -/
def FaultInput.clearLatch (x : FaultInput) (masked : Bool) : FaultInput :=
  { x with latch := x.latch && !(masked && !x.asserted) }

/-- The Trip Unit after READ FAULTS with a mask; the halt latch is left as it is (R118). -/
def TripUnit.clearLatches (t : TripUnit) (mask : SourceSet) : TripUnit :=
  { t with flt0 := t.flt0.clearLatch mask.flt0
           flt1 := t.flt1.clearLatch mask.flt1
           supplyLatch := t.supplyLatch && !(mask.supply && !t.supplyLow) }

/-- The edge selections byte: FLT0 in bit 0, FLT1 in bit 1 (R171). -/
def TripUnit.edgeByte (t : TripUnit) : Byte := byte (t.flt0.edge.code.toNat + 2 * t.flt1.edge.code.toNat)

/-- READ FAULTS (R117, R118). -/
def performReadFaults (s : State) (_n : SessionNo) (params : List Byte) : Performed := do
  let mask ← need (SourceSet.ofClearMask (arg params 1)) .badArgument 0xFF
  let after := s.trip.clearLatches mask
  .ok ({ s with trip := after },
    goodResponse [s.trip.latches.toByte, s.trip.assertedSources.toByte, after.latches.toByte,
      s.trip.edgeByte, byte s.trip.threshold.val])

/-- READ_FAULTS. -/
def execReadFaults (s : State) : Result := s.happen fun s => s.takeSession .readFaults performReadFaults

/-! ## Halt (R108, R109) -/

/-- HALT ALL: the halt latch set and, where it was clear, a trip of HALT on every non-FREE lease (R108). -/
def performHaltAll (s : State) (n : SessionNo) (_params : List Byte) : Performed := do
  s.checkSupervisor n
  if s.trip.haltLatch then .ok (s, goodResponse [1, 0])
  else .ok (({ s with trip := { s.trip with haltLatch := true } }).takeTrip (fun _ => true) .halt,
    goodResponse [0, byte (s.countLeases fun _ => true)])

/-- HALT_ALL. -/
def execHaltAll (s : State) : Result := s.happen fun s => s.takeSession .haltAll performHaltAll

/-- RELEASE HALT: the halt latch cleared; no cause is removed (R109). -/
def performReleaseHalt (s : State) (n : SessionNo) (_params : List Byte) : Performed := do
  s.checkSupervisor n
  .ok ({ s with trip := { s.trip with haltLatch := false } },
    goodResponse [flagByte s.trip.haltLatch, byte (s.countLeases fun r => r.causes.halt)])

/-- RELEASE_HALT. -/
def execReleaseHalt (s : State) : Result :=
  s.happen fun s => s.takeSession .releaseHalt performReleaseHalt

/-! ## Fault configuration (R119 to R121) -/

/-- An input under a new edge selection, its asserted condition taken afresh from its seen level (R120). -/
def FaultInput.select (x : FaultInput) (e : Edge) : FaultInput :=
  { x with edge := e, asserted := x.seen = e.assertedLevel }

/-- SET FAULT EDGE's effect: an input found asserted has its latch set, with a trip when it was clear
(R120). -/
def State.selectEdge (s : State) (i : FaultLine) (e : Edge) : State :=
  let s1 := s.setInput i ((s.trip.input i).select e)
  if ((s.trip.input i).select e).asserted then s1.setInputLatch i else s1

/-- SET FAULT EDGE (R119, R120). -/
def performSetFaultEdge (s : State) (n : SessionNo) (params : List Byte) : Performed := do
  s.checkConfigure n
  let i ← need (faultLineOfCode (arg params 1)) .badArgument 0xFF
  let e ← need (Edge.ofCode (arg params 2)) .badArgument 0xFF
  check (s.countLeases (subscribedTo i) == 0) .inUse (byte (s.countLeases (subscribedTo i)))
  let s1 := s.selectEdge i e
  .ok (s1, goodResponse [byte (arg params 1), e.code, flagByte (s1.trip.input i).asserted,
    flagByte (s1.trip.input i).latch])

/-- SET_FAULT_EDGE. -/
def execSetFaultEdge (s : State) : Result :=
  s.happen fun s => s.takeSession .setFaultEdge performSetFaultEdge

/-- The supply compared with the levels of a threshold code: below the threshold the condition is yes and the
latch set; at or above the threshold plus 100 mV the condition is no; between them both are kept
(R106, R121). -/
def State.compareSupply (s : State) : State :=
  if s.supplyMv < Config.thresholdMv s.trip.threshold then
    ({ s with trip := { s.trip with supplyLow := true } }).setSupplyLatch
  else if Config.thresholdMv s.trip.threshold + Config.hysteresisMv ≤ s.supplyMv then
    { s with trip := { s.trip with supplyLow := false } }
  else s

/-- SET SUPPLY LEVEL (R121). -/
def performSetSupplyLevel (s : State) (n : SessionNo) (params : List Byte) : Performed := do
  s.checkConfigure n
  let code ← need (indexOf 8 (arg params 1)) .badArgument 0xFF
  let s1 := ({ s with trip := { s.trip with threshold := code } }).compareSupply
  .ok (s1, goodResponse [byte code.val, flagByte s1.trip.supplyLow, flagByte s1.trip.supplyLatch])

/-- SET_SUPPLY_LEVEL. -/
def execSetSupplyLevel (s : State) : Result :=
  s.happen fun s => s.takeSession .setSupplyLevel performSetSupplyLevel

/-! ## The fault inputs (R104, R105) -/

/-- FAULT_INPUT_CHANGE: the board moves an input to a level. The filter then runs while the input differs from
the seen level, which stays as it was (R104). The board may move an input while a full reset is held, since
the release takes its level as it stands (R122). -/
def execFaultInputChange (i : FaultLine) (level : LineLevel) (s : State) : Result :=
  .next (s.setInput i { s.trip.input i with level := level })

/-- FAULT_EDGE: the filter passes a change of the seen level to the asserted level (R104, R105). Without such a
change waiting in the filter it does not come about (log 6). -/
def execFaultEdge (i : FaultLine) (s : State) : Result :=
  s.happen fun s =>
    let x := s.trip.input i
    if x.level ≠ x.seen ∧ x.level = x.edge.assertedLevel then
      (s.setInput i { x with seen := x.level, asserted := true }).setInputLatch i
    else s

/-- FAULT_RELEASE: the filter passes a change of the seen level away from the asserted level; the latch keeps its
value (R105). Without such a change waiting it does not come about (log 6). -/
def execFaultRelease (i : FaultLine) (s : State) : Result :=
  s.happen fun s =>
    let x := s.trip.input i
    if x.level ≠ x.seen ∧ x.level ≠ x.edge.assertedLevel then
      s.setInput i { x with seen := x.level, asserted := false }
    else s

end Sys2Proof.Machine
end

