-- ==== Sys2Proof/Machine/Dispatch.lean ====
section
/-! DEFINITION. One arm for each command: its meaning. -/

namespace Sys2Proof.Machine

/-- The effect of a command on everything but the queue. -/
def exec (i : Instr) (s : State) : Host.Outcome State Fault Refusal :=
  match i with
  | .openSession => Sys2Proof.Machine.execOpenSession s
  | .renew => Sys2Proof.Machine.execRenew s
  | .closeSession => Sys2Proof.Machine.execCloseSession s
  | .claim => Sys2Proof.Machine.execClaim s
  | .amend => Sys2Proof.Machine.execAmend s
  | .retire => Sys2Proof.Machine.execRetire s
  | .clearTrip => Sys2Proof.Machine.execClearTrip s
  | .retune => Sys2Proof.Machine.execRetune s
  | .adopt => Sys2Proof.Machine.execAdopt s
  | .readNotices => Sys2Proof.Machine.execReadNotices s
  | .readFaults => Sys2Proof.Machine.execReadFaults s
  | .querySession => Sys2Proof.Machine.execQuerySession s
  | .queryLease => Sys2Proof.Machine.execQueryLease s
  | .queryTimebase => Sys2Proof.Machine.execQueryTimebase s
  | .findByPin => Sys2Proof.Machine.execFindByPin s
  | .listLeases => Sys2Proof.Machine.execListLeases s
  | .setPinRest => Sys2Proof.Machine.execSetPinRest s
  | .setCarrier => Sys2Proof.Machine.execSetCarrier s
  | .setFaultEdge => Sys2Proof.Machine.execSetFaultEdge s
  | .setSupplyLevel => Sys2Proof.Machine.execSetSupplyLevel s
  | .haltAll => Sys2Proof.Machine.execHaltAll s
  | .releaseHalt => Sys2Proof.Machine.execReleaseHalt s
  | .badCommand => Sys2Proof.Machine.execBadCommand s
  | .commandFrame l m => Sys2Proof.Machine.execCommandFrame l m s
  | .fetch l m => Sys2Proof.Machine.execFetch l m s
  | .clearLink l m => Sys2Proof.Machine.execClearLink l m s
  | .ignoredTransaction l m => Sys2Proof.Machine.execIgnoredTransaction l m s
  | .count tb => Sys2Proof.Machine.execCount tb s
  | .boundary tb => Sys2Proof.Machine.execBoundary tb s
  | .startBoundary tb => Sys2Proof.Machine.execStartBoundary tb s
  | .carrierEdge c => Sys2Proof.Machine.execCarrierEdge c s
  | .tick who => Sys2Proof.Machine.execTick who s
  | .lapse n => Sys2Proof.Machine.execLapse n s
  | .holdExpiry n => Sys2Proof.Machine.execHoldExpiry n s
  | .faultInputChange x level => Sys2Proof.Machine.execFaultInputChange x level s
  | .faultEdge x => Sys2Proof.Machine.execFaultEdge x s
  | .faultRelease x => Sys2Proof.Machine.execFaultRelease x s
  | .supplyFall mv => Sys2Proof.Machine.execSupplyFall mv s
  | .supplyRise mv => Sys2Proof.Machine.execSupplyRise mv s
  | .fullReset cause => Sys2Proof.Machine.execFullReset cause s
  | .resetRelease => Sys2Proof.Machine.execResetRelease s

end Sys2Proof.Machine
end

