-- ==== Sys2Proof/Safety.lean ====
section
/-! DEFINITION. The terms the statements use: when the executor serves a command, what a happening keeps, and the
rules that hold of the whole part between happenings (R3, R46, R48, R86, R88, R92, R94, R100, R112, R125,
R127). -/

namespace Sys2Proof.Machine

/-! ## The executor -/

/-- The executor's next command is `c` with these parameters, from link `l`, for session `n` with record `r`, and it
passes the common checks (R162, R163). -/
structure State.Serves (s : State) (c : Command) (l : Link) (params : List Byte) (n : SessionNo)
    (r : SessionRecord) : Prop where
  notHeld : s.resetHeld = false
  chosen : s.chosen = some (l, { code := c.code, params := params })
  length : params.length ∈ c.lengths
  session : arg params 0 = n.val
  record : s.sessions[n] = some r
  link : r.link = l
  allowed : c.allowedIn r.status = true

/-- The executor's row for each command (R170). -/
def Command.instr : Command → Instr
  | .openSession => .openSession
  | .renew => .renew
  | .closeSession => .closeSession
  | .claim => .claim
  | .amend => .amend
  | .retire => .retire
  | .clearTrip => .clearTrip
  | .retune => .retune
  | .adopt => .adopt
  | .readNotices => .readNotices
  | .readFaults => .readFaults
  | .querySession => .querySession
  | .queryLease => .queryLease
  | .queryTimebase => .queryTimebase
  | .findByPin => .findByPin
  | .listLeases => .listLeases
  | .setPinRest => .setPinRest
  | .setCarrier => .setCarrier
  | .setFaultEdge => .setFaultEdge
  | .setSupplyLevel => .setSupplyLevel
  | .haltAll => .haltAll
  | .releaseHalt => .releaseHalt

/-- A command of the executor has been answered: the response stands in the slot of its link, which is DONE, and
that link is the one last served; the other slot and everything else of the links, the reset, RSTn, the
free values and the queue are as before (R162), and the attention lines are as R151 gives. -/
structure State.Answered (s t : State) (l : Link) (r : Response) : Prop where
  slot : (t.link l).slot = .done r
  served : t.lastServed = l
  otherSlot : ∀ m, m ≠ l → (t.link m).slot = (s.link m).slot
  refused : ∀ m, (t.link m).refused = (s.link m).refused
  transaction : ∀ m, (t.link m).transaction = (s.link m).transaction
  out : ∀ m, (t.link m).out = (s.link m).out
  attention : ∀ m, (t.link m).attention = t.attentionOf m
  reset : t.resetHeld = s.resetHeld
  rstn : t.rstn = s.rstn
  free : t.freeCount = s.freeCount
  queue : t.pending = s.pending

/-- A link's slot, flag, transaction and bytes are as before. -/
structure State.PortKept (s t : State) (m : Link) : Prop where
  slot : (t.link m).slot = (s.link m).slot
  refused : (t.link m).refused = (s.link m).refused
  transaction : (t.link m).transaction = (s.link m).transaction
  out : (t.link m).out = (s.link m).out

/-- Both links are as before but for their attention lines, which are as R151 gives, and so are the last-served link,
RSTn, the free values and the queue. -/
structure State.LinksKept (s t : State) : Prop where
  port : ∀ m, s.PortKept t m
  attention : ∀ m, (t.link m).attention = t.attentionOf m
  served : t.lastServed = s.lastServed
  rstn : t.rstn = s.rstn
  free : t.freeCount = s.freeCount
  queue : t.pending = s.pending

/-- The lease table, the channel map, the timebases and the carriers are as before. -/
structure State.LeasesKept (s t : State) : Prop where
  leases : t.leases = s.leases
  channels : t.channels = s.channels
  timebases : t.timebases = s.timebases
  carrierA : t.carrierA = s.carrierA
  carrierB : t.carrierB = s.carrierB

/-- The engines and the pin table are as before. -/
structure State.OutputsKept (s t : State) : Prop where
  engines : t.engines = s.engines
  pins : t.pins = s.pins

/-- The Trip Unit and the supply are as before. -/
structure State.TripKept (s t : State) : Prop where
  trip : t.trip = s.trip
  supply : t.supplyMv = s.supplyMv

/-- Every session but one is as before. -/
def State.OtherSessionsKept (s t : State) (n : SessionNo) : Prop :=
  ∀ j, j ≠ n → t.sessions[j] = s.sessions[j]

/-- Every lease record but one is as before. -/
def State.OtherLeasesKept (s t : State) (k : LeaseNo) : Prop :=
  ∀ j, j ≠ k → t.leases[j] = s.leases[j]

/-- Every timebase record but one is as before. -/
def State.OtherTimebasesKept (s t : State) (tb : TimebaseNo) : Prop :=
  ∀ j, j ≠ tb → t.timebases[j] = s.timebases[j]

/-- A served command renews its session and leaves every other as it was (R128). -/
def State.Renews (s t : State) (n : SessionNo) (r : SessionRecord) : Prop :=
  t.sessions[n] = some r.renewed ∧ s.OtherSessionsKept t n

/-- A served command has been answered and has changed nothing but for the renewal (R18, R128, R164). -/
structure State.AnsweredAlone (s t : State) (l : Link) (resp : Response) (n : SessionNo) (r : SessionRecord) :
    Prop where
  answered : s.Answered t l resp
  renews : s.Renews t n r
  leases : s.LeasesKept t
  outputs : s.OutputsKept t
  trip : s.TripKept t

/-- An engine without the output it generates, which follows from the records (`State.Settled`). -/
def Engine.bare : Engine → Engine
  | .unused => .unused
  | .held u => .held u
  | .generating u e _ => .generating u e { inWindow := false, carrier := none }

/-- A pin keeps its owner and its rest level; its current level follows from the records (`State.Settled`). -/
def State.PinKept (s t : State) (p : PinNo) : Prop :=
  t.pins[p].owner = s.pins[p].owner ∧ t.pins[p].rest = s.pins[p].rest

/-- Every engine keeps what it holds and every pin its owner and rest level. -/
structure State.HoldingsKept (s t : State) : Prop where
  engines : ∀ c : ChannelNo, t.engines[c].bare = s.engines[c].bare
  pins : ∀ p : PinNo, s.PinKept t p

/-- Each carrier keeps its divider and its level. -/
def State.WavesKept (s t : State) : Prop :=
  ∀ c : Carrier, (t.carrier c).divider = (s.carrier c).divider ∧ (t.carrier c).high = (s.carrier c).high

/-! ## Outputs up to date -/

/-- The engines' outputs, the pins' current levels and the attention lines are what the records make them (R86,
R95, R151). -/
def State.Settled (s : State) : Prop := s.refresh = s

/-! ## Rules of the whole part -/

/-- A property of a lease record, where there is one. -/
def leaseHas (l : Lease) (p : LeaseRecord → Prop) : Prop :=
  match l with
  | none => True
  | some r => p r

/-- The counts of bindings: each timebase's reference count and each carrier's in-use count are the numbers of
bindings of non-FREE leases that name it (R48, R100). -/
def State.CountsAgree (s : State) : Prop :=
  (∀ tb : TimebaseNo, s.timebases[tb].refCount = bindingsOn s.leases tb)
    ∧ ∀ c : Carrier, (s.carrier c).inUse = carrierUses s.leases c

/-- A lease record of the shape R2 to R4 give: one to four bindings, a staged change of as many entries, a ramp step
of 1 to 255, and at least one cause while TRIPPED. -/
def LeaseRecord.Shaped (r : LeaseRecord) : Prop :=
  1 ≤ r.bindings.length ∧ r.bindings.length ≤ 4 ∧
    match r.phase with
    | .armed => True
    | .running => True
    | .amendPending staged => staged.length = r.bindings.length
    | .draining .atBoundary => True
    | .draining (.ramp step) => 1 ≤ step ∧ step ≤ 255
    | .tripped causes _ => causes ≠ SourceSet.empty

/-- Every lease record is of the shape of R2 to R4. -/
def State.LeasesShaped (s : State) : Prop := ∀ n : LeaseNo, leaseHas s.leases[n] LeaseRecord.Shaped

/-- Each timebase is IDLE exactly when its reference count is zero, and otherwise its period holder is a lease bound
to it (R48). -/
def State.HoldersAgree (s : State) : Prop :=
  ∀ tb : TimebaseNo,
    match s.timebases[tb].run with
    | none => s.timebases[tb].refCount = 0
    | some t => s.timebases[tb].refCount ≠ 0 ∧ boundTo s.leases[t.holder] tb = true

/-- The ranges of the timebase record (R46): periods 16 to 4095, the counter below the period in force, 0 while
IDLE and while start pending is set. -/
def Timebase.InRange (t : Timebase) : Prop :=
  match t.run with
  | none => t.counter = 0
  | some r =>
    16 ≤ r.period ∧ r.period ≤ 4095 ∧ 16 ≤ r.coming ∧ r.coming ≤ 4095
      ∧ (if r.startPending then t.counter = 0 else t.counter < r.period)

/-- Every timebase record is in its ranges (R46). -/
def State.TimebasesInRange (s : State) : Prop := ∀ tb : TimebaseNo, s.timebases[tb].InRange

/-- The duties of a lease under its timebase: every active duty at most the period in force and the coming period,
every staged duty at most the coming period (R53, R88). -/
def LeaseRecord.DutiesWithin (r : LeaseRecord) (t : TimebaseRun) : Prop :=
  (∀ b ∈ r.bindings, b.active.duty ≤ t.period ∧ b.active.duty ≤ t.coming)
    ∧ ∀ st ∈ r.stagedChange, st.duty ≤ t.coming

/-- Every lease is bound to a running timebase and its duties are within its periods (R48, R88). -/
def State.DutiesFit (s : State) : Prop :=
  ∀ n : LeaseNo, leaseHas s.leases[n] fun r =>
    match s.timebases[r.timebase].run with
    | none => False
    | some t => r.DutiesWithin t

/-- Whether a latch of the Trip Unit reaches a lease (R110). -/
def TripUnit.reachesLease (t : TripUnit) (r : LeaseRecord) : SourceSet :=
  { flt0 := t.flt0.latch && r.subscription.flt0, flt1 := t.flt1.latch && r.subscription.flt1,
    supply := t.supplyLatch, halt := t.haltLatch, lapse := false }

/-- While a latch is set, every non-FREE lease it reaches holds its source as a cause, and so is TRIPPED (R112). While
a full reset is held every lease is FREE (R23). -/
def State.LatchesHeld (s : State) : Prop :=
  (∀ n : LeaseNo, leaseHas s.leases[n] fun r =>
    (s.trip.reachesLease r).diff r.causes = SourceSet.empty)
    ∧ (s.resetHeld = true → ∀ n : LeaseNo, s.leases[n] = none)

/-- At most one session is of class SUPERVISOR, and it was opened on Link B (R125). -/
def State.OneSupervisor (s : State) : Prop :=
  ∀ n : SessionNo, s.isSupervisor n = true →
    (∀ r, s.sessions[n] = some r → r.link = .b) ∧ ∀ m : SessionNo, s.isSupervisor m = true → m = n

/-- Every non-FREE lease is held by a session that is OPEN or LAPSED, and an OPEN session holds no more leases than
its quota (R127). -/
def State.HoldingsAgree (s : State) : Prop :=
  (∀ n : LeaseNo, leaseHas s.leases[n] fun r => s.sessions[r.holder].isSome = true)
    ∧ ∀ n : SessionNo, ∀ r, s.sessions[n] = some r → (∃ t, r.status = .opened t) → s.heldCount n ≤ r.quota

/-- The place an engine in use serves (R86). -/
def Engine.place? : Engine → Option Place
  | .unused => none
  | .held u => some u.place
  | .generating u _ _ => some u.place

/-- What an engine in use holds. -/
def Engine.use? : Engine → Option EngineUse
  | .unused => none
  | .held u => some u
  | .generating u _ _ => some u

/-- Whether an engine is GENERATING. -/
def Engine.isGenerating : Engine → Bool
  | .unused => false
  | .held _ => false
  | .generating _ _ _ => true

/-- An engine is HELD or GENERATING exactly when the map holds its channel for its binding (R86). -/
def State.EnginesMatchMap (s : State) : Prop :=
  ∀ c : ChannelNo, s.engines[c].place? = s.channels[c]

/-- The dead-band state a generating engine holds: the COMPLEMENT engine's edges, none for PRIMARY (R86, R92). -/
def edgesFor (role : Role) (st : Settings) (period : Nat) : Option Edges :=
  match role with
  | .primary => none
  | .complement => some (complementEdges st period)

/-- An engine serves a binding in a role as its lease's state gives (R9, R86, R87, R88, R92): its place, the lease's
active and staged settings, GENERATING while the lease is RUNNING, AMEND_PENDING or DRAINING and HELD while it is
ARMED or TRIPPED, and while GENERATING the dead-band state of the period in force. -/
def Engine.Serves (e : Engine) (n : LeaseNo) (r : LeaseRecord) (i : Nat) (b : Binding) (role : Role)
    (period : Nat) : Prop :=
  e.use? = some { place := { lease := n, index := i, role := role }, active := b.active, staged := r.stagedAt i }
    ∧ match e with
      | .unused => False
      | .held _ => r.phase.showsSafe = true
      | .generating _ edges _ => r.phase.showsSafe = false ∧ edges = edgesFor role b.active period

/-- The two places of a binding (R7): each role with its channel and pin. -/
def Binding.halves (b : Binding) : List (Role × ChannelNo × PinNo) :=
  (.primary, b.channel, b.pin) :: (b.complement.map fun k => (.complement, k.channel, k.pin)).toList

/-- The channel map, the engines and the pin table say of a lease's bindings what the lease record says (R7, R8, R86,
R88, R94). -/
def State.BindingsServed (s : State) (n : LeaseNo) (r : LeaseRecord) : Prop :=
  ∀ x ∈ r.bindings.zipIdx, ∀ h ∈ x.1.halves,
    s.channels[h.2.1] = some { lease := n, index := x.2, role := h.1 }
      ∧ s.engines[h.2.1].Serves n r x.2 x.1 h.1 (s.periodOf n)
      ∧ s.pins[h.2.2].owner = some { place := { lease := n, index := x.2, role := h.1 }, drive := x.1.drive }

/-- A held channel and an owned pin name a binding of a non-FREE lease that has them (R8, R94). -/
def State.PlacesNamed (s : State) : Prop :=
  (∀ c : ChannelNo, ∀ p, s.channels[c] = some p →
    ∃ r b, s.leases[p.lease] = some r ∧ r.bindings[p.index]? = some b
      ∧ ∃ h ∈ b.halves, h.1 = p.role ∧ h.2.1 = c)
    ∧ ∀ q : PinNo, ∀ o, s.pins[q].owner = some o →
      ∃ r b, s.leases[o.place.lease] = some r ∧ r.bindings[o.place.index]? = some b ∧ o.drive = b.drive
        ∧ ∃ h ∈ b.halves, h.1 = o.place.role ∧ h.2.2 = q

/-- The tables agree: every lease's bindings are served, nothing else is held or owned, and the engines match the
channel map (R8, R86, R88, R94). -/
def State.TablesAgree (s : State) : Prop :=
  (∀ n : LeaseNo, leaseHas s.leases[n] fun r => s.BindingsServed n r) ∧ s.PlacesNamed ∧ s.EnginesMatchMap

/-- A complementary binding's safe levels do not both equal its active level, under its active settings and under
its staged ones (R30, R72). -/
def State.SafePairsFit (s : State) : Prop :=
  ∀ n : LeaseNo, leaseHas s.leases[n] fun r =>
    ∀ x ∈ r.bindings.zipIdx, ∀ k, x.1.complement = some k →
      safePairFits x.1.active.polarity x.1.safe k.safe = true
        ∧ ∀ st, r.stagedAt x.2 = some st → safePairFits st.polarity x.1.safe k.safe = true

/-- A complementary binding has no carrier gate, active or staged, and a single one no dead band (R7). -/
def State.GatesFit (s : State) : Prop :=
  ∀ n : LeaseNo, leaseHas s.leases[n] fun r =>
    ∀ x ∈ r.bindings.zipIdx,
      settingsFit x.1.active x.1.complement.isSome = true
        ∧ ∀ st, r.stagedAt x.2 = some st → settingsFit st x.1.complement.isSome = true

/-- The two pins of every complementary binding never show the binding's active level at the same time (R92). -/
def State.NeverBothActive (s : State) : Prop :=
  ∀ n : LeaseNo, leaseHas s.leases[n] fun r =>
    ∀ b ∈ r.bindings, ∀ k, b.complement = some k →
      ¬ (s.pins[b.pin].level = b.active.polarity.activeLevel
          ∧ s.pins[k.pin].level = b.active.polarity.activeLevel)

/-! ## What the outputs show, by the manual's rules -/

/-- The active level of a polarity (R90). -/
def Polarity.shownActive : Polarity → Level
  | .activeHigh => .high
  | .activeLow => .low

/-- The inactive level of a polarity (R90). -/
def Polarity.shownInactive : Polarity → Level
  | .activeHigh => .low
  | .activeLow => .high

/-- The counter lies in the window of a role: below the duty (R89); for the complement pin at least the duty plus the
dead band, and at most the period in force less one less the dead band (R92). -/
def Timebase.InWindow (t : Timebase) (st : Settings) : Role → Prop
  | .primary => t.counter < st.duty
  | .complement =>
    ∃ x, t.run = some x ∧ st.duty + st.deadBand ≤ t.counter ∧ t.counter + st.deadBand + 1 ≤ x.period

/-- A generated pin shows its active level: in window with gate NONE; in window and the carrier high under MARK; in
window or the carrier high under SPACE (R91, R92). -/
def State.RoleActive (s : State) (t : Timebase) (st : Settings) (role : Role) : Prop :=
  match st.gate, st.mode with
  | none, .mark => t.InWindow st role
  | none, .space => t.InWindow st role
  | some c, .mark => t.InWindow st role ∧ (s.carrier c).high = true
  | some c, .space => t.InWindow st role ∨ (s.carrier c).high = true

/-- The level is the binding's safe level for the pin's role (R7). -/
def Binding.ShowsSafe (b : Binding) (level : Level) : Role → Prop
  | .primary => level = b.safe
  | .complement => ∀ k, b.complement = some k → level = k.safe

/-- The level is the one a generating binding gives the pin of a role (R90 to R92). -/
def State.ShowsWaveform (s : State) (r : LeaseRecord) (b : Binding) (role : Role) (level : Level) : Prop :=
  (s.RoleActive s.timebases[r.timebase] b.active role → level = b.active.polarity.shownActive)
    ∧ (¬ s.RoleActive s.timebases[r.timebase] b.active role → level = b.active.polarity.shownInactive)

/-- The level of an owned pin: safe while its lease is ARMED or TRIPPED, the waveform while it is RUNNING,
AMEND_PENDING or DRAINING (R95). -/
def State.HalfShows (s : State) (r : LeaseRecord) (b : Binding) (role : Role) (level : Level) : Prop :=
  match r.phase with
  | .armed => b.ShowsSafe level role
  | .tripped _ _ => b.ShowsSafe level role
  | .running => s.ShowsWaveform r b role level
  | .amendPending _ => s.ShowsWaveform r b role level
  | .draining _ => s.ShowsWaveform r b role level

/-- The outputs of the part, each by the rule that gives it: an unowned pin shows its rest level, and the pins of a
lease's bindings show what its state gives (R95); a generating engine is in window as its role's window gives and
holds its carrier's level (R86, R89, R92); and a link's attention line is active exactly when its slot is DONE or
a session opened on it has a non-empty notice set, and never while a full reset is held (R151, R166). -/
structure State.ShowsByRules (s : State) : Prop where
  rest : ∀ p : PinNo, s.pins[p].owner = none → s.pins[p].level = s.pins[p].rest
  leased : ∀ n : LeaseNo, leaseHas s.leases[n] fun r =>
    ∀ b ∈ r.bindings, ∀ h ∈ b.halves, s.HalfShows r b h.1 s.pins[h.2.2].level
  engines : ∀ (c : ChannelNo) (u : EngineUse) (e : Option Edges) (o : EngineOutput),
    s.engines[c] = .generating u e o →
    o.carrier = u.active.gate.map (fun g => (s.carrier g).high)
      ∧ leaseHas s.leases[u.place.lease] fun r =>
          o.inWindow = true ↔ s.timebases[r.timebase].InWindow u.active u.place.role
  attention : ∀ l : Link, (s.link l).attention = true
    ↔ s.resetHeld = false ∧ ((∃ resp, (s.link l).slot = .done resp)
      ∨ ∃ (n : SessionNo) (r : SessionRecord) (k : LeaseNo), s.sessions[n] = some r ∧ r.link = l
          ∧ r.notices[k] ≠ KindSet.empty)

/-- While RSTn is low the full reset is held: the model's choice (DESIGN CHOICE, unsafe, log 4), since a low pulse
shorter than 1 us, which takes no reset (R172), leaves no level in the model. -/
def State.ResetLineHeld (s : State) : Prop := s.rstn = .low → s.resetHeld = true

/-! ## Notices, teardown and trips as the manual gives them -/

/-- Kinds are recorded for leases: each session's entry for each lease it holds gains the kinds of its mask, and
nothing else of any session changes (R145). -/
def State.NoticesRecorded (s t : State) (kinds : LeaseNo → KindSet) : Prop :=
  ∀ n : SessionNo,
    (s.sessions[n] = none → t.sessions[n] = none)
      ∧ ∀ r, s.sessions[n] = some r → ∃ r', t.sessions[n] = some r' ∧ { r' with notices := r.notices } = r
          ∧ ∀ k : LeaseNo, r'.notices[k]
              = if heldBy s.leases[k] n then r.notices[k].union ((kinds k).inter r.mask) else r.notices[k]

/-- The kinds of a trip: TRIPPED for each lease it reaches (R111). -/
def trippedKinds (ls : Vector Lease 16) (reached : LeaseRecord → Bool) : LeaseNo → KindSet := fun k =>
  if ls[k].any reached then { KindSet.empty with tripped := true } else KindSet.empty

/-- The holder of a timebase after teardowns: the holder before while its lease is bound, else the lowest-numbered
lease still bound (R64). -/
def IsHolderAfter (ls : Vector Lease 16) (tb : TimebaseNo) (before after : LeaseNo) : Prop :=
  if boundTo ls[before] tb then after = before
  else boundTo ls[after] tb = true ∧ ∀ j, j < after → boundTo ls[j] tb = false

/-- The leases that `which` names have been torn down in one happening (R16): their records are FREE, their channels
free, their engines UNUSED and their pins unowned with the rest level kept; everything that is not theirs is as
before. A timebase that none of them was bound to is as before; one they leave goes IDLE when its reference count
is zero (R65) and else keeps all but its count and, by succession, its holder (R64). -/
structure State.TornDown (s t : State) (which : LeaseNo → Bool) : Prop where
  leases : ∀ k : LeaseNo, t.leases[k] = if which k then none else s.leases[k]
  channels : ∀ c : ChannelNo, t.channels[c]
    = if s.channels[c].any (fun p => which p.lease) then none else s.channels[c]
  engines : ∀ c : ChannelNo, t.engines[c].bare
    = if s.engines[c].place?.any (fun p => which p.lease) then .unused else s.engines[c].bare
  pins : ∀ p : PinNo, t.pins[p].rest = s.pins[p].rest
    ∧ t.pins[p].owner = if s.pins[p].owner.any (fun o => which o.place.lease) then none else s.pins[p].owner
  waves : s.WavesKept t
  uses : ∀ c : Carrier, (t.carrier c).inUse = carrierUses t.leases c
  kept : ∀ tb : TimebaseNo, (∀ k, which k = true → boundTo s.leases[k] tb = false) →
    t.timebases[tb] = s.timebases[tb]
  idle : ∀ (tb : TimebaseNo) (x : TimebaseRun) (k : LeaseNo), s.timebases[tb].run = some x → which k = true →
    boundTo s.leases[k] tb = true → bindingsOn t.leases tb = 0 →
    t.timebases[tb] = { prescale := s.timebases[tb].prescale, counter := 0, refCount := 0, run := none }
  succession : ∀ (tb : TimebaseNo) (x : TimebaseRun) (k : LeaseNo), s.timebases[tb].run = some x →
    which k = true → boundTo s.leases[k] tb = true → bindingsOn t.leases tb ≠ 0 →
    ∃ h, IsHolderAfter t.leases tb x.holder h ∧ t.timebases[tb]
      = { prescale := s.timebases[tb].prescale, counter := s.timebases[tb].counter,
          refCount := bindingsOn t.leases tb, run := some { x with holder := h } }

/-- A lease record after a trip that reaches it, by the table of R111: TRIPPED with the one cause, retire pending set
where it was DRAINING; or, TRIPPED before, with the cause added. All else is kept. -/
def LeaseRecord.IsTripped (r r' : LeaseRecord) (cause : Source) : Prop :=
  match r.phase with
  | .armed => r' = { r with phase := .tripped (SourceSet.empty.add cause) false }
  | .running => r' = { r with phase := .tripped (SourceSet.empty.add cause) false }
  | .amendPending _ => r' = { r with phase := .tripped (SourceSet.empty.add cause) false }
  | .draining _ => r' = { r with phase := .tripped (SourceSet.empty.add cause) true }
  | .tripped causes pending => r' = { r with phase := .tripped (causes.add cause) pending }

/-- A trip of a cause has been taken (R111): every lease it reaches is tripped, its engines are HELD with no staged
settings, and the carriers' counts follow; every other lease and engine, the channels, the pins' owners and rest
levels, and the timebases are as before. -/
structure State.TripTaken (s t : State) (reached : LeaseRecord → Bool) (cause : Source) : Prop where
  free : ∀ k : LeaseNo, s.leases[k] = none → t.leases[k] = none
  hit : ∀ (k : LeaseNo) r, s.leases[k] = some r → reached r = true →
    ∃ r', t.leases[k] = some r' ∧ r.IsTripped r' cause
  missed : ∀ (k : LeaseNo) r, s.leases[k] = some r → reached r = false → t.leases[k] = some r
  held : ∀ (c : ChannelNo) u, s.engines[c].use? = some u → s.leases[u.place.lease].any reached = true →
    t.engines[c] = .held { u with staged := none }
  others : ∀ c : ChannelNo, (∀ u, s.engines[c].use? = some u → s.leases[u.place.lease].any reached = false) →
    t.engines[c].bare = s.engines[c].bare
  pins : ∀ p : PinNo, s.PinKept t p
  channels : t.channels = s.channels
  timebases : t.timebases = s.timebases
  waves : s.WavesKept t
  uses : ∀ c : Carrier, (t.carrier c).inUse = carrierUses t.leases c

/-! ## Boundaries -/

/-- A command takes a boundary of a timebase that runs with the record `x`: a BOUNDARY or a COUNT when the counter
holds 0 (R50), or a START_BOUNDARY while start pending is set (R51). -/
def State.TakesBoundary (s : State) (i : Instr) (tb : TimebaseNo) (x : TimebaseRun) : Prop :=
  s.resetHeld = false ∧ s.timebases[tb].run = some x
    ∧ ((i = .startBoundary tb ∧ x.startPending = true)
      ∨ ((i = .boundary tb ∨ i = .count tb) ∧ x.startPending = false ∧ s.timebases[tb].counter = 0))

/-- Every active duty of a lease is 0. -/
def LeaseRecord.allZero (r : LeaseRecord) : Prop := ∀ b ∈ r.bindings, b.active.duty = 0

/-- Whether a boundary of its timebase ends a lease's drain: AT_BOUNDARY, or RAMP with every duty 0 (R56, R57). -/
def LeaseRecord.DrainEnds (r : LeaseRecord) : Prop :=
  r.phase = .draining .atBoundary ∨ (∃ step, r.phase = .draining (.ramp step)) ∧ r.allZero

/-- A lease record after a boundary of its timebase that does not end its drain (R54 to R58). -/
def LeaseRecord.IsMoved (r r' : LeaseRecord) : Prop :=
  match r.phase with
  | .armed => r' = { r with phase := .running }
  | .running => r' = r
  | .tripped _ _ => r' = r
  | .amendPending staged =>
    r' = { r with bindings := List.zipWith (fun b st => { b with active := st }) r.bindings staged
                  generation := r.generation + 1, phase := .running }
  | .draining .atBoundary => False
  | .draining (.ramp step) =>
    r' = { r with bindings := r.bindings.map fun b =>
            { b with active := { b.active with duty := b.active.duty - step } } }

/-- What an engine of a bound lease holds after a boundary that does not end the lease's drain: the staged settings as
the active ones at a commit (R55), the duty lowered by the step under RAMP (R57), else the same (R88). -/
def EngineUse.atBoundary (u : EngineUse) (r : LeaseRecord) : EngineUse :=
  match r.phase with
  | .armed => u
  | .running => u
  | .tripped _ _ => u
  | .amendPending _ => { u with active := u.staged.getD u.active, staged := none }
  | .draining .atBoundary => u
  | .draining (.ramp step) => { u with active := { u.active with duty := u.active.duty - step } }

/-- An engine of a bound lease after such a boundary, its output left aside: GENERATING when the boundary starts its
lease or it was so before, with the dead-band state of the period now in force (R54, R87, R92); else HELD. -/
def Engine.movedBare (e : Engine) (u : EngineUse) (r : LeaseRecord) (period : Nat) : Engine :=
  if r.phase = .armed ∨ e.isGenerating = true then
    .generating (u.atBoundary r) (edgesFor u.place.role (u.atBoundary r).active period)
      { inWindow := false, carrier := none }
  else .held (u.atBoundary r)

/-- The notices of a boundary for a bound lease (R53 to R57). -/
def LeaseRecord.BoundaryNotices (r : LeaseRecord) (retunes : Bool) (x : KindSet) : Prop :=
  x.started = decide (r.phase = .armed) ∧ (x.committed = true ↔ ∃ staged, r.phase = .amendPending staged)
    ∧ x.retuned = retunes ∧ x.tripped = false ∧ (x.retired = true ↔ r.DrainEnds) ∧ x.adopted = false

/-! ## Fields, guards and reports -/

/-! ### The bytes of a claim and of an amend (R168 to R170) -/

/-- The settings byte of settings and a drive mode, by the table of R169. -/
def settingsCode (st : Settings) (d : DriveMode) : Nat :=
  (match st.gate with | none => 0 | some .ca => 1 | some .cb => 2)
    + (match st.mode with | .mark => 0 | .space => 4)
    + (match st.polarity with | .activeHigh => 0 | .activeLow => 8)
    + (match d with | .pushPull => 0 | .openDrain => 16)

/-- The code of a level, by the table of R169. -/
def levelCode : Level → Nat
  | .low => 0
  | .high => 1
  | .float => 2

/-- The seven bytes of binding block `i` of a claim spell a block without a fault of its own (R24, R27, R170). -/
structure ClaimBlockSpelled (ps : List Byte) (i : Nat) (x : ClaimBlock) : Prop where
  pin : arg ps (7 + 7 * i) = x.pin.val
  complement : arg ps (8 + 7 * i) = (match x.complementPin with | none => 0xFF | some p => p.val)
  duty : arg2 ps (9 + 7 * i) = x.settings.duty ∧ x.settings.duty ≤ 4095
  deadBand : arg ps (11 + 7 * i) = x.settings.deadBand ∧ x.settings.deadBand ≤ 63
  settings : arg ps (12 + 7 * i) = settingsCode x.settings x.drive
  safe : arg ps (13 + 7 * i) = levelCode x.safe + 4 * levelCode x.complementSafe
  single : x.complementPin = none → x.settings.deadBand = 0
  complementary : x.complementPin ≠ none → x.settings.gate = none
  twoPins : x.complementPin ≠ some x.pin

/-- The first blocks of a claim are spelled, and none names a pin that an earlier one names (R27). -/
def ClaimBlocksSpelled (ps : List Byte) (xs : List ClaimBlock) : Prop :=
  ∀ i x, xs[i]? = some x → ClaimBlockSpelled ps i x
    ∧ ∀ j y, j < i → xs[j]? = some y → ∀ p ∈ x.pins, p ∉ y.pins

/-- The lease-level fields of a claim are in range, and its binding count is the number of blocks carried (R26). -/
def ClaimFieldsFit (ps : List Byte) : Prop :=
  arg ps 1 < 4 ∧ (arg2 ps 2 = 0 ∨ (16 ≤ arg2 ps 2 ∧ arg2 ps 2 ≤ 4095)) ∧ arg ps 4 < 8 ∧ arg ps 5 < 4
    ∧ 1 ≤ arg ps 6 ∧ arg ps 6 ≤ 4 ∧ ps.length = 7 + 7 * arg ps 6

/-- The parameters of a claim spell a request (R24, R26, R27, R170). -/
structure ClaimSpelled (ps : List Byte) (q : ClaimRequest) : Prop where
  fit : ClaimFieldsFit ps
  timebase : arg ps 1 = q.timebase.val
  period : arg2 ps 2 = q.period
  prescale : arg ps 4 = q.prescale.val
  subscription : arg ps 5 = (if q.subscription.flt0 then 1 else 0) + (if q.subscription.flt1 then 2 else 0)
  count : arg ps 6 = q.blocks.length
  blocks : ClaimBlocksSpelled ps q.blocks

/-- The four bytes of amend block `i` spell settings for a binding, without a fault (R68, R70, R169, R170). -/
structure AmendBlockSpelled (ps : List Byte) (i : Nat) (b : Binding) (st : Settings) : Prop where
  duty : arg2 ps (3 + 4 * i) = st.duty ∧ st.duty ≤ 4095
  deadBand : arg ps (5 + 4 * i) = st.deadBand ∧ st.deadBand ≤ 63
  settings : arg ps (6 + 4 * i) = settingsCode st .pushPull
  single : b.complement = none → st.deadBand = 0
  complementary : b.complement ≠ none → st.gate = none

/-- The first blocks of an amend are spelled, each for the binding of its index (R70). -/
def AmendSpelled (ps : List Byte) (bs : List Binding) (sts : List Settings) : Prop :=
  ∀ i st, sts[i]? = some st → ∃ b, bs[i]? = some b ∧ AmendBlockSpelled ps i b st

/-! ### Checks in order -/

/-- The index of the first entry that fails a check, in binding-index order. -/
def FirstFailing {α : Type} (ok : α → Prop) (xs : List α) (i : Nat) : Prop :=
  (∃ x, xs[i]? = some x ∧ ¬ ok x) ∧ ∀ j y, j < i → xs[j]? = some y → ok y

/-- Two safe levels do not both equal the active level of a polarity (R30, R72). -/
def SafeLevelsPass (p : Polarity) (primary complement : Level) : Prop :=
  ¬ (primary = p.shownActive ∧ complement = p.shownActive)

/-- The carrier a gate names is RUNNING (R33, R72). -/
def State.GatePasses (s : State) (st : Settings) : Prop := ∀ c, st.gate = some c → (s.carrier c).divider ≠ 0

/-- The claimed period and prescale agree with the timebase (R31). -/
def Timebase.Agrees (t : Timebase) (q : ClaimRequest) : Prop :=
  match t.run with
  | none => q.period ≠ 0
  | some x => q.period = 0 ∨ (q.period = x.coming ∧ q.prescale = t.prescale)

/-- A claimed duty is within the period that governs it: the claimed period on an IDLE timebase; on another the
coming period, and the period in force (R32). -/
def Timebase.DutyPasses (t : Timebase) (q : ClaimRequest) (duty : Nat) : Prop :=
  match t.run with
  | none => duty ≤ q.period
  | some x => duty ≤ x.coming ∧ duty ≤ x.period

/-- The set of latches that would reach a claim's lease, in the encoding of trip sources (R34, R169). -/
def TripUnit.latchesOn (t : TripUnit) (q : ClaimRequest) : Nat :=
  (if t.flt0.latch = true ∧ q.subscription.flt0 = true then 1 else 0)
    + (if t.flt1.latch = true ∧ q.subscription.flt1 = true then 2 else 0)
    + (if t.supplyLatch = true then 4 else 0) + (if t.haltLatch = true then 8 else 0)

/-- Step 1 of CLAIM refuses: FFh for a lease-level field (R26), else the index of the first block with a fault
(R27). -/
def ClaimMisspelled (ps : List Byte) (detail : Byte) : Prop :=
  (¬ ClaimFieldsFit ps ∧ detail = 0xFF)
    ∨ (ClaimFieldsFit ps ∧ ∃ xs : List ClaimBlock, xs.length < arg ps 6 ∧ ClaimBlocksSpelled ps xs
        ∧ (∀ x, ¬ ClaimBlocksSpelled ps (xs ++ [x])) ∧ detail = byte xs.length)

/-- Steps 2 to 10 of CLAIM refuse a request, the first that fails deciding status and detail (R25, R28 to R36). -/
def State.ClaimRefused (s : State) (n : SessionNo) (r : SessionRecord) (q : ClaimRequest) (status : Status)
    (detail : Byte) : Prop :=
  ((∀ k : LeaseNo, s.leases[k] ≠ none) ∧ status = .noLeaseSpace ∧ detail = 0)
  ∨ ((∃ k : LeaseNo, s.leases[k] = none) ∧
    ((s.heldCount n = r.quota ∧ status = .quota ∧ detail = byte r.quota)
    ∨ (s.heldCount n ≠ r.quota ∧
      ((∃ p ∈ q.pins, s.pins[p].owner ≠ none ∧ (∀ x ∈ q.pins, x < p → s.pins[x].owner = none)
          ∧ status = .pinTaken ∧ detail = byte p.val)
      ∨ ((∀ p ∈ q.pins, s.pins[p].owner = none) ∧
        ((∃ i, FirstFailing (fun b : ClaimBlock => b.complementPin ≠ none →
              SafeLevelsPass b.settings.polarity b.safe b.complementSafe) q.blocks i
            ∧ status = .badSafe ∧ detail = byte i)
        ∨ ((∀ b ∈ q.blocks, b.complementPin ≠ none →
              SafeLevelsPass b.settings.polarity b.safe b.complementSafe) ∧
          ((s.timebases[q.timebase].run = none ∧ q.period = 0 ∧ status = .badArgument ∧ detail = 0xFF)
          ∨ (∃ x, s.timebases[q.timebase].run = some x ∧ ¬ s.timebases[q.timebase].Agrees q
              ∧ status = .periodConflict
              ∧ detail = byte ((if q.period = x.coming then 0 else 1)
                  + (if q.prescale = s.timebases[q.timebase].prescale then 0 else 2)))
          ∨ (s.timebases[q.timebase].Agrees q ∧
            ((∃ i, FirstFailing (fun b : ClaimBlock => s.timebases[q.timebase].DutyPasses q b.settings.duty)
                q.blocks i ∧ status = .dutyRange ∧ detail = byte i)
            ∨ ((∀ b ∈ q.blocks, s.timebases[q.timebase].DutyPasses q b.settings.duty) ∧
              ((∃ i, FirstFailing (fun b : ClaimBlock => s.GatePasses b.settings) q.blocks i
                  ∧ status = .carrierOff ∧ detail = byte i)
              ∨ ((∀ b ∈ q.blocks, s.GatePasses b.settings) ∧
                ((s.trip.latchesOn q ≠ 0 ∧ status = .faultActive ∧ detail = byte (s.trip.latchesOn q))
                ∨ (s.trip.latchesOn q = 0
                  ∧ ∃ i, allocate s.channels (q.blocks.map fun b => b.complementPin.isSome) = .error i
                    ∧ status = .noChannel ∧ detail = byte i)))))))))))))))

/-- Steps 4 to 7 of AMEND refuse, the first that fails deciding status and detail (R69 to R72). -/
def State.AmendRefused (s : State) (ps : List Byte) (x : LeaseRecord) (y : TimebaseRun) (status : Status)
    (detail : Byte) : Prop :=
  ((arg ps 2 ≠ (ps.length - 3) / 4 ∨ arg ps 2 ≠ x.bindings.length) ∧ status = .badArgument ∧ detail = 0xFF)
  ∨ (arg ps 2 = (ps.length - 3) / 4 ∧ arg ps 2 = x.bindings.length ∧
    ((∃ xs : List Settings, xs.length < x.bindings.length ∧ AmendSpelled ps x.bindings xs
        ∧ (∀ st, ¬ AmendSpelled ps x.bindings (xs ++ [st])) ∧ status = .badArgument ∧ detail = byte xs.length)
    ∨ ∃ sts : List Settings, sts.length = x.bindings.length ∧ AmendSpelled ps x.bindings sts ∧
      ((∃ i, FirstFailing (fun st : Settings => st.duty ≤ y.coming) sts i ∧ status = .dutyRange ∧ detail = byte i)
      ∨ ((∀ st ∈ sts, st.duty ≤ y.coming) ∧
        ((∃ i, FirstFailing (fun z : Binding × Settings => ∀ k, z.1.complement = some k →
              SafeLevelsPass z.2.polarity z.1.safe k.safe) (x.bindings.zip sts) i
            ∧ status = .badSafe ∧ detail = byte i)
        ∨ ((∀ z ∈ x.bindings.zip sts, ∀ k, z.1.complement = some k →
              SafeLevelsPass z.2.polarity z.1.safe k.safe) ∧
          ∃ i, FirstFailing s.GatePasses sts i ∧ status = .carrierOff ∧ detail = byte i))))))

/-- A session may retune a timebase: it holds the period holder lease, or is the supervisor (R61). -/
def State.MayRetune (s : State) (n : SessionNo) (r : SessionRecord) (tb : TimebaseNo) : Prop :=
  r.cls = .supervisor ∨ ∃ x, s.timebases[tb].run = some x ∧ heldBy s.leases[x.holder] n = true

/-- Some active or staged duty of a lease bound to the timebase exceeds a period (R62). -/
def LeaseRecord.DutyExceeds (q : LeaseRecord) (tb : TimebaseNo) (period : Nat) : Prop :=
  q.timebase = tb ∧ ((∃ b ∈ q.bindings, period < b.active.duty) ∨ ∃ st ∈ q.stagedChange, period < st.duty)

/-- RETUNE's own checks refuse, the first that fails deciding status and detail (R60 to R62). -/
def State.RetuneRefused (s : State) (n : SessionNo) (r : SessionRecord) (ps : List Byte) (status : Status)
    (detail : Byte) : Prop :=
  (4 ≤ arg ps 1 ∧ status = .badArgument ∧ detail = 0xFF)
  ∨ ∃ tb : TimebaseNo, arg ps 1 = tb.val ∧
    ((¬ s.MayRetune n r tb ∧ status = .notPeriodHolder
        ∧ detail = (match s.timebases[tb].run with | none => 0xFF | some x => byte x.holder.val))
    ∨ (s.MayRetune n r tb ∧ s.timebases[tb].run = none ∧ status = .wrongState ∧ detail = 0)
    ∨ (s.MayRetune n r tb ∧ s.timebases[tb].run ≠ none ∧ (arg2 ps 2 < 16 ∨ 4095 < arg2 ps 2)
        ∧ status = .badArgument ∧ detail = 0xFF)
    ∨ (s.MayRetune n r tb ∧ s.timebases[tb].run ≠ none ∧ 16 ≤ arg2 ps 2 ∧ arg2 ps 2 ≤ 4095
        ∧ ∃ k : LeaseNo, (∃ q, s.leases[k] = some q ∧ q.DutyExceeds tb (arg2 ps 2))
          ∧ (∀ j : LeaseNo, j < k → leaseHas s.leases[j] fun q => ¬ q.DutyExceeds tb (arg2 ps 2))
          ∧ status = .dutyRange ∧ detail = byte k.val))

/-- A session may configure the part: no supervisor is OPEN or LAPSED, or it is the supervisor (R140). -/
def State.MayConfigure (s : State) (r : SessionRecord) : Prop :=
  (∀ m, s.isSupervisor m = false) ∨ r.cls = .supervisor

/-- The number of non-FREE leases that subscribe to an input (R119). -/
def State.subscribers (s : State) (i : FaultLine) : Nat :=
  ((List.finRange 16).filter fun k => s.leases[k].any fun x => x.subscription.has i).length

/-- After the permission check, the fields and the uses that refuse a configuration command (R97, R101, R119,
R121). -/
def State.ConfigurationRefused (s : State) (c : Command) (ps : List Byte) (status : Status) (detail : Byte) : Prop :=
  (((c = .setPinRest ∧ (24 ≤ arg ps 1 ∨ 3 ≤ arg ps 2))
      ∨ (c = .setCarrier ∧ ((arg ps 1 ≠ 1 ∧ arg ps 1 ≠ 2) ∨ 1023 < arg2 ps 2))
      ∨ (c = .setFaultEdge ∧ (2 ≤ arg ps 1 ∨ 2 ≤ arg ps 2))
      ∨ (c = .setSupplyLevel ∧ 8 ≤ arg ps 1)) ∧ status = .badArgument ∧ detail = 0xFF)
  ∨ (c = .setCarrier ∧ arg2 ps 2 ≤ 1023 ∧ status = .inUse
      ∧ ∃ d : Carrier, arg ps 1 = (match d with | .ca => 1 | .cb => 2) ∧ (s.carrier d).inUse ≠ 0
        ∧ detail = byte (s.carrier d).inUse)
  ∨ (c = .setFaultEdge ∧ arg ps 2 < 2 ∧ status = .inUse
      ∧ ∃ i : FaultLine, arg ps 1 = (match i with | .flt0 => 0 | .flt1 => 1) ∧ s.subscribers i ≠ 0
        ∧ detail = byte (s.subscribers i))

/-- The own checks of the configuration commands, of HALT ALL and RELEASE HALT, of READ FAULTS and of the queries
that take a number, the first that fails deciding status and detail (R21, R22, R66, R97, R101, R108, R109, R117,
R119, R121, R140, R142). -/
def State.OwnChecksRefuse (s : State) (c : Command) (r : SessionRecord) (ps : List Byte) (status : Status)
    (detail : Byte) : Prop :=
  ((c = .setPinRest ∨ c = .setCarrier ∨ c = .setFaultEdge ∨ c = .setSupplyLevel) ∧
    ((¬ s.MayConfigure r ∧ status = .notSupervisor ∧ detail = 0)
      ∨ (s.MayConfigure r ∧ s.ConfigurationRefused c ps status detail)))
  ∨ ((c = .haltAll ∨ c = .releaseHalt) ∧ r.cls = .ordinary ∧ status = .notSupervisor ∧ detail = 0)
  ∨ (((c = .readFaults ∧ 8 ≤ arg ps 1) ∨ (c = .querySession ∧ 8 ≤ arg ps 1) ∨ (c = .listLeases ∧ 8 ≤ arg ps 1)
      ∨ (c = .queryTimebase ∧ 4 ≤ arg ps 1) ∨ (c = .findByPin ∧ 24 ≤ arg ps 1))
      ∧ status = .badArgument ∧ detail = 0xFF)

/-! ### Channel allocation (R35, R36) -/

/-- For the complementary binding `i`, an even channel is free with its odd partner, the pairs of earlier
complementary bindings taken away. -/
def PairFree (map : Vector (Option Place) 12) (kinds : List Bool) (f : Nat → ChannelNo) (i : Nat)
    (c : ChannelNo) : Prop :=
  c.val % 2 = 0 ∧ map[c] = none ∧ map[c + 1] = none ∧ ∀ j, j < i → kinds[j]? = some true → f j ≠ c

/-- For the single binding `i`, a channel is free, the pairs of all complementary bindings and the channels of
earlier single ones taken away. -/
def SingleFree (map : Vector (Option Place) 12) (kinds : List Bool) (f : Nat → ChannelNo) (i : Nat)
    (c : ChannelNo) : Prop :=
  map[c] = none ∧ (∀ j, kinds[j]? = some true → f j ≠ c ∧ f j + 1 ≠ c)
    ∧ ∀ j, j < i → kinds[j]? = some false → f j ≠ c

/-- A channel is the lowest-numbered one with a property. -/
def IsLowestChannel (p : ChannelNo → Prop) (c : ChannelNo) : Prop := p c ∧ ∀ d : ChannelNo, d < c → ¬ p d

/-- The complementary bindings below an index each hold the lowest free pair. -/
def PairsPlaced (map : Vector (Option Place) 12) (kinds : List Bool) (f : Nat → ChannelNo) (below : Nat) : Prop :=
  ∀ i, i < below → kinds[i]? = some true → IsLowestChannel (PairFree map kinds f i) (f i)

/-- The single bindings below an index each hold the lowest free channel. -/
def SinglesPlaced (map : Vector (Option Place) 12) (kinds : List Bool) (f : Nat → ChannelNo) (below : Nat) : Prop :=
  ∀ i, i < below → kinds[i]? = some false → IsLowestChannel (SingleFree map kinds f i) (f i)

/-! ### The lease guard and the reports -/

/-- The fields of OPEN SESSION are in range and spell a class and a mask (R125, step 1). -/
def OpenFields (ps : List Byte) (cls : SessionClass) (mask : KindSet) : Prop :=
  SessionClass.ofCode (arg ps 0) = some cls ∧ 1 ≤ arg ps 1 ∧ 1 ≤ arg ps 2 ∧ arg ps 2 ≤ 16
    ∧ KindSet.ofNat (arg ps 3) = some mask

/-- The authority step of the lease guard (R13). -/
def MayAct (c : Command) (r : SessionRecord) (n : SessionNo) (l : Lease) : Prop :=
  ((c = .amend ∨ c = .retire ∨ c = .clearTrip) ∧ heldBy l n = true)
    ∨ ((c = .retire ∨ c = .clearTrip ∨ c = .adopt) ∧ r.cls = .supervisor) ∨ c = .queryLease

/-- The mode or view step of the lease guard: RETIRE's mode with its step, QUERY LEASE's view (R12, R77). -/
def ModePasses (c : Command) (ps : List Byte) : Prop :=
  (c = .retire → arg ps 2 < 2 ∨ (arg ps 2 = 2 ∧ arg ps 3 ≠ 0)) ∧ (c = .queryLease → arg ps 2 < 2)

/-- The state step of the lease guard, given the mode or view (R14). -/
def State.LeaseAccepts (s : State) (c : Command) (mode : Nat) (l : Lease) : Prop :=
  (c = .queryLease ∧ mode = 0)
    ∨ ∃ x, l = some x ∧
      ((c = .amend ∧ (x.phase = .running ∨ ∃ staged, x.phase = .amendPending staged))
        ∨ (c = .retire ∧ (mode = 0 ∨ ∀ plan, x.phase ≠ .draining plan))
        ∨ (c = .clearTrip ∧ ∃ causes p, x.phase = .tripped causes p)
        ∨ (c = .adopt ∧ ∃ y h, s.sessions[x.holder] = some y ∧ y.status = .lapsed h)
        ∨ (c = .queryLease ∧ ∃ staged, x.phase = .amendPending staged))

/-- The lease guard refuses a command that names a lease, and after it ADOPT's quota check, the first check that fails
deciding status and detail (R12 to R14, R137). -/
def State.GuardRefuses (s : State) (c : Command) (n : SessionNo) (r : SessionRecord) (ps : List Byte)
    (status : Status) (detail : Byte) : Prop :=
  (c = .amend ∨ c = .retire ∨ c = .clearTrip ∨ c = .adopt ∨ c = .queryLease) ∧
    ((16 ≤ arg ps 1 ∧ status = .badArgument ∧ detail = 0xFF)
    ∨ ∃ k : LeaseNo, arg ps 1 = k.val ∧
      ((¬ MayAct c r n s.leases[k] ∧ c = .adopt ∧ status = .notSupervisor ∧ detail = 0)
      ∨ (¬ MayAct c r n s.leases[k] ∧ c ≠ .adopt ∧ status = .notHolder
          ∧ detail = (match s.leases[k] with | none => 0xFF | some x => byte x.holder.val))
      ∨ (MayAct c r n s.leases[k] ∧ ¬ ModePasses c ps ∧ status = .badArgument ∧ detail = 0xFF)
      ∨ (MayAct c r n s.leases[k] ∧ ModePasses c ps ∧ ¬ s.LeaseAccepts c (arg ps 2) s.leases[k]
          ∧ status = .wrongState ∧ detail = leaseCode s.leases[k])
      ∨ (MayAct c r n s.leases[k] ∧ s.LeaseAccepts c (arg ps 2) s.leases[k] ∧ c = .adopt
          ∧ s.heldCount n = r.quota ∧ status = .quota ∧ detail = byte r.quota)))

/-- AMEND passes the lease guard and refuses at one of its own steps 4 to 7 (R69 to R72). -/
def State.AmendRefuses (s : State) (n : SessionNo) (r : SessionRecord) (ps : List Byte) (status : Status)
    (detail : Byte) : Prop :=
  ∃ (k : LeaseNo) (x : LeaseRecord) (y : TimebaseRun), arg ps 1 = k.val ∧ s.leases[k] = some x
    ∧ MayAct .amend r n s.leases[k] ∧ s.LeaseAccepts .amend (arg ps 2) s.leases[k]
    ∧ s.timebases[x.timebase].run = some y ∧ s.AmendRefused ps x y status detail

/-- The data of QUERY SESSION for a subject's record and its held-lease count (R142, R171). -/
def sessionReport (j : SessionNo) (q : Session) (held : Nat) : List Byte :=
  match q with
  | none => [byte j.val, 0, 0xFF, 0xFF, 0, 0, 0, 0, 0, byte held, 0, 0]
  | some r =>
    [byte j.val, (match r.status with | .opened _ => 1 | .lapsed _ => 2), r.cls.code, linkCode r.link,
      byte r.interval, (match r.status with | .opened x => byte x | .lapsed _ => 0)]
      ++ twoBytes (match r.status with | .opened _ => 0 | .lapsed x => x)
      ++ [byte r.quota, byte held, r.mask.toByte,
        byte ((List.finRange 16).filter fun k => decide (r.notices[k] ≠ KindSet.empty)).length]

/-- The data of QUERY TIMEBASE for a record (R66, R171): FFFFh for an absent period, FFh for an absent holder. -/
def timebaseReport (tb : TimebaseNo) (t : Timebase) : List Byte :=
  match t.run with
  | none => [byte tb.val, 0, byte t.prescale.val, 0xFF, 0xFF, 0xFF, 0xFF] ++ twoBytes t.counter
      ++ [0xFF, byte t.refCount]
  | some x =>
    [byte tb.val, if x.staged.isSome then 2 else 1, byte t.prescale.val] ++ twoBytes x.period
      ++ twoBytes (x.staged.getD 0xFFFF) ++ twoBytes t.counter ++ [byte x.holder.val, byte t.refCount]

/-- The data of QUERY LEASE for a record (R19, R171); with a staged change, its settings in place of the active ones
(R20). -/
def leaseReport (k : LeaseNo) (l : Lease) (staged : Option (List Settings)) : List Byte :=
  match l with
  | none => [byte k.val, 0]
  | some x =>
    [byte k.val, x.phase.code, byte x.holder.val, byte x.timebase.val, x.subscription.toByte,
        byte x.bindings.length, x.generation]
      ++ (match x.phase with
          | .draining .atBoundary => [1, 0]
          | .draining (.ramp step) => [2, byte step]
          | .armed => [0xFF, 0]
          | .running => [0xFF, 0]
          | .amendPending _ => [0xFF, 0]
          | .tripped _ _ => [0xFF, 0])
      ++ [(match x.phase with
            | .tripped causes _ => causes.toByte
            | .armed => 0
            | .running => 0
            | .amendPending _ => 0
            | .draining _ => 0),
          flagByte x.retirePending]
      ++ (match staged with
          | none => x.bindings.flatMap fun b => bindingBytes b b.active
          | some sts => (x.bindings.zip sts).flatMap fun y => bindingBytes y.1 y.2)

/-! ## Transactions -/

/-- Whether a session is OPEN. -/
def SessionRecord.isOpen (r : SessionRecord) : Bool :=
  match r.status with
  | .opened _ => true
  | .lapsed _ => false

/-- A transaction of a link reaches nothing of the other link, of the executor or of the queue (R153, R167), and its own
attention line is as R151 gives. -/
structure State.OnlyLink (s t : State) (l : Link) : Prop where
  other : ∀ m, m ≠ l → t.link m = s.link m
  attention : (t.link l).attention = t.attentionOf l
  served : t.lastServed = s.lastServed
  rstn : t.rstn = s.rstn
  free : t.freeCount = s.freeCount
  queue : t.pending = s.pending

/-- Every table outside the links, and the reset, are as before. -/
structure State.EverythingElseKept (s t : State) : Prop where
  leases : s.LeasesKept t
  outputs : s.OutputsKept t
  trip : s.TripKept t
  sessions : t.sessions = s.sessions
  reset : t.resetHeld = s.resetHeld

/-- The command of a row of transactions. -/
def rowInstr : TransactionRow → Link → Moment → Instr
  | .frame => .commandFrame
  | .fetch => .fetch
  | .clear => .clearLink
  | .ignored => .ignoredTransaction

/-- The bytes of a frame fail a test of R156, the first in its order, with a detail. -/
def FrameFault (code : Byte) (rest : List Byte) (detail : Byte) : Prop :=
  (rest = [] ∧ detail = 0x03)
    ∨ ∃ len more, rest = len :: more
      ∧ ((48 < len.toNat ∧ detail = 0x03)
        ∨ (len.toNat ≤ 48 ∧ more.length + 2 < len.toNat + 3 ∧ detail = 0x01)
        ∨ (len.toNat ≤ 48 ∧ len.toNat + 3 < more.length + 2 ∧ detail = 0x02)
        ∨ (len.toNat ≤ 48 ∧ more.length + 2 = len.toNat + 3 ∧ byteSum (code :: rest) ≠ 0 ∧ detail = 0x04))

end Sys2Proof.Machine
end

