-- ==== Sys2Proof/Certificates/Slice0/Obligations.lean ====
section
/-! DEFINITION. The statements for the provers. Frames are said with the terms of Sys2Proof/Safety.lean. -/

open Sys2Proof Sys2Proof.Machine

/-! ## The queue, the reset and the executor -/

/-- A step runs the command at the front of the queue on the state with the queue's rest; with no command waiting the
part idles. Both are the model's choice (log 1). -/
def Obligations.StepTakesTheFrontCommand : Prop :=
  (∀ (s : State) (c : Instr) (rest : List Instr), s.pending = c :: rest →
    step s = exec c { s with pending := rest })
  ∧ ∀ s : State, s.pending = [] → step s = .next s

/-- `State.reset` is what a full reset and its release leave, with the inputs HIGH, the supply at 3300 mV, the board
raising RSTn, both chip selects high and no transaction held off, the free-value counter at 0 and the queue empty:
these are the model's choices (logs 2, 3, 4, 15, 5 and 1). -/
def Obligations.ResetIsWhatAReleaseLeaves : Prop :=
  ∀ s : State, s.trip.flt0.level = .high → s.trip.flt1.level = .high → s.supplyMv = 3300 →
    s.linkA.transaction = none → s.linkB.transaction = none → s.freeCount = 0 → s.pending = [] →
    ∃ t, exec (.fullReset .powerOn) s = .next t ∧ exec .resetRelease t = .next State.reset

/-- A full reset sets every table directly and is held (R23, R67, R102, R122, R143, R166). Beside the rules it states
choices of the model: that it keeps the inputs' levels, their seen levels, the supply and, but for a reset by RSTn
itself, the level of RSTn (log 4), that a transaction in progress goes on ignored with its status byte still due
where its first byte has not come (log 10, DEDUCED), and that it empties the record of bytes sent and keeps the
free-value counter and the queue (log 14). A low pulse on RSTn shorter than 1 us changes nothing (R172). -/
def Obligations.FullResetSetsEveryTable : Prop :=
  (∀ (s : State) (cause : ResetCause),
    (match cause with | .rstn lowNs => 1000 ≤ lowNs | .powerOn => True | .supply mv => mv < 2750) →
    ∃ t, exec (.fullReset cause) s = .next t
      ∧ (∀ k : LeaseNo, t.leases[k] = none) ∧ (∀ c : ChannelNo, t.channels[c] = none)
      ∧ (∀ tb : TimebaseNo, t.timebases[tb] = { prescale := 0, counter := 0, refCount := 0, run := none })
      ∧ (∀ c : ChannelNo, t.engines[c] = .unused)
      ∧ (∀ p : PinNo, t.pins[p] = { owner := none, rest := .float, level := .float } ∧ t.pinDrive p = .released)
      ∧ (∀ c : Carrier, t.carrier c = { divider := 0, high := false, inUse := 0 })
      ∧ (∀ n : SessionNo, t.sessions[n] = none ∧ t.heldCount n = 0)
      ∧ (∀ i : FaultLine, (t.trip.input i).edge = .falling ∧ (t.trip.input i).latch = false
          ∧ (t.trip.input i).level = (s.trip.input i).level ∧ (t.trip.input i).seen = (s.trip.input i).seen)
      ∧ t.trip.threshold = 0 ∧ t.trip.supplyLow = false ∧ t.trip.supplyLatch = false ∧ t.trip.haltLatch = false
      ∧ (∀ l : Link, t.link l = { slot := .idle, refused := false, attention := false,
                                  transaction := (s.link l).transaction.map fun x => .ignored
                                    (match x with
                                     | .selected st => some st
                                     | .ignored due => due
                                     | .frame => none
                                     | .refusedFrame => none
                                     | .fetch _ => none
                                     | .clear _ => none)
                                  out := [] })
      ∧ t.lastServed = .b ∧ t.resetHeld = true
      ∧ t.rstn = (match cause with | .rstn _ => .low | .powerOn => s.rstn | .supply _ => s.rstn)
      ∧ t.supplyMv = (match cause with | .rstn _ => s.supplyMv | .powerOn => s.supplyMv | .supply mv => mv)
      ∧ t.freeCount = s.freeCount ∧ t.pending = s.pending)
  ∧ ∀ (s : State) (lowNs : Nat), lowNs < 1000 → exec (.fullReset (.rstn lowNs)) s = .next s

/-- The release takes each input as it stands and seeds its latch; with the supply not above the power-on level the
reset goes on being held (R106, R122). RESET_RELEASE stands for the board having RSTn high, and one sent with no
reset held changes nothing: the model's choices (log 4, log 6). -/
def Obligations.ResetReleaseSeedsTheLatches : Prop :=
  (∀ s : State, s.resetHeld = true → s.Settled →
    (2750 < s.supplyMv → ∃ t, exec .resetRelease s = .next t ∧ t.resetHeld = false ∧ t.rstn = .high
      ∧ (∀ i : FaultLine, t.trip.input i
          = { edge := .falling, level := (s.trip.input i).level, seen := (s.trip.input i).level,
              asserted := decide ((s.trip.input i).level = .low)
              latch := decide ((s.trip.input i).level = .low) })
      ∧ t.trip.threshold = s.trip.threshold ∧ t.trip.supplyLow = s.trip.supplyLow
      ∧ t.trip.supplyLatch = s.trip.supplyLatch ∧ t.trip.haltLatch = s.trip.haltLatch
      ∧ s.LeasesKept t ∧ s.OutputsKept t ∧ t.sessions = s.sessions ∧ t.supplyMv = s.supplyMv
      ∧ (∀ l : Link, s.PortKept t l ∧ (t.link l).attention = t.attentionOf l) ∧ t.lastServed = s.lastServed
      ∧ t.freeCount = s.freeCount ∧ t.pending = s.pending)
    ∧ (s.supplyMv ≤ 2750 → exec .resetRelease s = .next { s with rstn := .high }))
  ∧ ∀ s : State, s.resetHeld = false → exec .resetRelease s = .next s

/-- While a full reset is held every pin is released (R95), and no happening of the executor, a timebase, a carrier, a
session or the filters is taken: R67, R102, R122, R143 and R166 leave none to come about, and that one sent all the
same changes nothing is the model's choice (log 6). -/
def Obligations.NothingIsTakenWhileAResetIsHeld : Prop :=
  ∀ s : State, s.resetHeld = true →
    (∀ c : Command, exec c.instr s = .next s) ∧ exec .badCommand s = .next s
      ∧ (∀ tb : TimebaseNo, exec (.count tb) s = .next s ∧ exec (.boundary tb) s = .next s
          ∧ exec (.startBoundary tb) s = .next s)
      ∧ (∀ c : Carrier, exec (.carrierEdge c) s = .next s)
      ∧ (∀ who : Option SessionNo, exec (.tick who) s = .next s)
      ∧ (∀ n : SessionNo, exec (.lapse n) s = .next s ∧ exec (.holdExpiry n) s = .next s)
      ∧ (∀ i : FaultLine, exec (.faultEdge i) s = .next s ∧ exec (.faultRelease i) s = .next s)
      ∧ ∀ p : PinNo, s.pinDrive p = .released

/-- The executor takes from a QUEUED slot, of two the one it did not serve last, and its response makes that slot DONE
whatever the outcome (R162). -/
def Obligations.ExecutorAnswersInTheCommandsSlot : Prop :=
  ∀ (s : State) (c : Command) (l : Link) (f : Frame), s.resetHeld = false → (s.link l).slot = .queued f →
    (∀ m g, m ≠ l → (s.link m).slot = .queued g → s.lastServed = m) → f.code = c.code →
    ∃ t resp, exec c.instr s = .next t ∧ s.Answered t l resp

/-- A command is refused at the first common check it fails, and nothing is renewed (R163, steps 2 to 5). -/
def Obligations.CommonChecksRefuseInOrder : Prop :=
  ∀ (s : State) (c : Command) (l : Link) (ps : List Byte) (status : Status) (detail : Byte),
    s.resetHeld = false → s.Settled → s.chosen = some (l, { code := c.code, params := ps }) →
    ((ps.length ∉ c.lengths ∧ status = .badLength ∧ detail = byte ps.length)
      ∨ (c ≠ .openSession ∧ ps.length ∈ c.lengths
          ∧ (8 ≤ arg ps 0 ∨ ∃ n : SessionNo, arg ps 0 = n.val ∧ s.sessions[n] = none)
          ∧ status = .noSession ∧ detail = byte (arg ps 0))
      ∨ (c ≠ .openSession ∧ ps.length ∈ c.lengths
          ∧ ∃ (n : SessionNo) (r : SessionRecord), arg ps 0 = n.val ∧ s.sessions[n] = some r ∧ r.link ≠ l
            ∧ status = .wrongLink ∧ detail = (match r.link with | .a => 0 | .b => 1))
      ∨ (c ≠ .openSession ∧ ps.length ∈ c.lengths
          ∧ ∃ (n : SessionNo) (r : SessionRecord) (h : Nat), arg ps 0 = n.val ∧ s.sessions[n] = some r
            ∧ r.link = l ∧ r.status = .lapsed h ∧ c.lapsedMay = false ∧ status = .lapsed ∧ detail = 0)) →
    ∃ t, exec c.instr s = .next t ∧ s.Answered t l { status := status, detail := detail, data := [] }
      ∧ t.sessions = s.sessions ∧ s.LeasesKept t ∧ s.OutputsKept t ∧ s.TripKept t

/-- A refused command leaves every table as it was but for the renewal, and its response carries no data; a CLEAR TRIP
answered FAULT_ACTIVE is performed and not refused (R113, R164). -/
def Obligations.RefusedCommandsLeaveTheTables : Prop :=
  ∀ (s t : State) (c : Command) (l : Link) (ps : List Byte) (resp : Response),
    s.resetHeld = false → s.Settled → s.chosen = some (l, { code := c.code, params := ps }) →
    exec c.instr s = .next t → (t.link l).slot = .done resp → resp.status ≠ .good →
    (c = .clearTrip → resp.status ≠ .faultActive) →
    resp.data = [] ∧ s.Answered t l resp ∧ s.LeasesKept t ∧ s.OutputsKept t ∧ s.TripKept t
      ∧ (∀ n r, c ≠ .openSession → s.Serves c l ps n r → s.Renews t n r)
      ∧ ((c = .openSession ∨ ∀ n r, ¬ s.Serves c l ps n r) → t.sessions = s.sessions)

/-- A command row that the executor does not choose does not come about: the model's choice (log 6). -/
def Obligations.UnchosenCommandsChangeNothing : Prop :=
  ∀ (s : State) (c : Command), s.Settled → (∀ l f, s.chosen = some (l, f) → f.code ≠ c.code) →
    exec c.instr s = .next s

/-- A frame whose code names no command is refused with BAD_COMMAND and the code (R163, step 1). -/
def Obligations.BadCommandIsRefused : Prop :=
  ∀ (s : State) (l : Link) (f : Frame), s.resetHeld = false → s.Settled → s.chosen = some (l, f) →
    (∀ c : Command, c.code ≠ f.code) →
    ∃ t, exec .badCommand s = .next t ∧ s.Answered t l { status := .badCommand, detail := f.code, data := [] }
      ∧ t.sessions = s.sessions ∧ s.LeasesKept t ∧ s.OutputsKept t ∧ s.TripKept t

/-! ## Sessions and notices -/

/-- An accepted OPEN SESSION takes the lowest-numbered FREE record and fills it from the values carried (R126). -/
def Obligations.OpenSessionTakesTheLowestFreeRecord : Prop :=
  ∀ (s : State) (l : Link) (ps : List Byte) (cls : SessionClass) (mask : KindSet) (n : SessionNo),
    s.resetHeld = false → s.Settled →
    s.chosen = some (l, { code := Command.openSession.code, params := ps }) → ps.length = 4 → OpenFields ps cls mask →
    (cls = .supervisor → l = .b ∧ ∀ m, s.isSupervisor m = false) →
    s.sessions[n] = none → (∀ m : SessionNo, m < n → s.sessions[m] ≠ none) →
    ∃ t, exec .openSession s = .next t
      ∧ t.sessions[n] = some { cls := cls, link := l, interval := arg ps 1, status := .opened (arg ps 1),
                               quota := arg ps 2, mask := mask, notices := Vector.replicate 16 KindSet.empty }
      ∧ s.OtherSessionsKept t n
      ∧ s.Answered t l (goodResponse ([byte n.val, cls.code, linkCode l,
          byte (arg ps 1), byte (arg ps 2), mask.toByte]))
      ∧ s.LeasesKept t ∧ s.OutputsKept t ∧ s.TripKept t

/-- OPEN SESSION's own checks run in the order of R125, and the first that fails decides the status. -/
def Obligations.OpenSessionRefusesInOrder : Prop :=
  ∀ (s : State) (l : Link) (ps : List Byte) (status : Status) (detail : Byte),
    s.resetHeld = false → s.Settled →
    s.chosen = some (l, { code := Command.openSession.code, params := ps }) → ps.length = 4 →
    (((∀ cls mask, ¬ OpenFields ps cls mask) ∧ status = .badArgument ∧ detail = 0xFF)
      ∨ (∃ mask, OpenFields ps .supervisor mask ∧ l ≠ .b ∧ status = .wrongLink ∧ detail = 0)
      ∨ (∃ mask, ∃ m : SessionNo, OpenFields ps .supervisor mask ∧ l = .b ∧ s.isSupervisor m = true
          ∧ (∀ j, j < m → s.isSupervisor j = false) ∧ status = .supervisorExists ∧ detail = byte m.val)
      ∨ (∃ cls mask, OpenFields ps cls mask ∧ (cls = .supervisor → l = .b ∧ ∀ m, s.isSupervisor m = false)
          ∧ (∀ m : SessionNo, s.sessions[m] ≠ none) ∧ status = .noSessionSpace ∧ detail = 0)) →
    ∃ t, exec .openSession s = .next t ∧ s.Answered t l { status := status, detail := detail, data := [] }
      ∧ t.sessions = s.sessions ∧ s.LeasesKept t ∧ s.OutputsKept t ∧ s.TripKept t

/-- RENEW reloads the remaining time and changes no other table (R128, R129). -/
def Obligations.RenewReloadsTheRemainingTime : Prop :=
  ∀ (s : State) (l : Link) (ps : List Byte) (n : SessionNo) (r : SessionRecord),
    s.Serves .renew l ps n r → s.Settled →
    ∃ t, exec .renew s = .next t
      ∧ s.Answered t l (goodResponse ([byte n.val, byte r.interval, byte (s.heldCount n)]))
      ∧ t.sessions[n] = some { r with status := .opened r.interval } ∧ s.OtherSessionsKept t n
      ∧ s.LeasesKept t ∧ s.OutputsKept t ∧ s.TripKept t

/-- CLOSE SESSION tears down every lease the session holds and frees its record (R135). -/
def Obligations.CloseSessionTearsDownItsLeases : Prop :=
  ∀ (s : State) (l : Link) (ps : List Byte) (n : SessionNo) (r : SessionRecord),
    s.Serves .closeSession l ps n r → s.CountsAgree →
    ∃ t, exec .closeSession s = .next t
      ∧ s.Answered t l (goodResponse ([byte n.val, byte (s.heldCount n)]))
      ∧ s.TornDown t (fun k => heldBy s.leases[k] n) ∧ t.sessions[n] = none ∧ s.OtherSessionsKept t n
      ∧ s.TripKept t ∧ t.Settled

/-- An accepted ADOPT changes the lease's holder and nothing else of the lease, and records ADOPTED for the lapsed
session (R138). -/
def Obligations.AdoptChangesTheHolderAlone : Prop :=
  ∀ (s : State) (l : Link) (ps : List Byte) (n : SessionNo) (r y : SessionRecord) (k : LeaseNo) (x : LeaseRecord)
    (h : Nat),
    s.Serves .adopt l ps n r → s.Settled → r.cls = .supervisor → arg ps 1 = k.val → s.leases[k] = some x →
    s.sessions[x.holder] = some y → y.status = .lapsed h → s.heldCount n ≠ r.quota →
    ∃ t, exec .adopt s = .next t ∧ t.leases[k] = some { x with holder := n } ∧ s.OtherLeasesKept t k
      ∧ t.heldCount n = s.heldCount n + 1 ∧ t.heldCount x.holder + 1 = s.heldCount x.holder
      ∧ (∃ y', t.sessions[x.holder] = some y' ∧ { y' with notices := y.notices } = y
          ∧ y'.notices[k] = y.notices[k].union (KindSet.inter { KindSet.empty with adopted := true } y.mask)
          ∧ ∀ j : LeaseNo, j ≠ k → y'.notices[j] = y.notices[j])
      ∧ t.sessions[n] = some r.renewed
      ∧ (∀ j : SessionNo, j ≠ n → j ≠ x.holder → t.sessions[j] = s.sessions[j])
      ∧ s.Answered t l (goodResponse ([byte k.val, x.phase.code, byte x.holder.val,
          x.causes.toByte, byte (s.heldCount n + 1)]))
      ∧ t.channels = s.channels ∧ t.timebases = s.timebases ∧ t.carrierA = s.carrierA ∧ t.carrierB = s.carrierB
      ∧ s.OutputsKept t ∧ s.TripKept t

/-- READ NOTICES returns the session's set in lease order and leaves it empty (R149). -/
def Obligations.ReadNoticesEmptiesTheSet : Prop :=
  ∀ (s : State) (l : Link) (ps : List Byte) (n : SessionNo) (r : SessionRecord),
    s.Serves .readNotices l ps n r → s.Settled →
    ∃ t, exec .readNotices s = .next t
      ∧ t.sessions[n] = some { r.renewed with notices := Vector.replicate 16 KindSet.empty }
      ∧ s.OtherSessionsKept t n
      ∧ (∃ items : List LeaseNo, items.Pairwise (· < ·) ∧ (∀ k, k ∈ items ↔ r.notices[k] ≠ KindSet.empty)
          ∧ s.Answered t l (goodResponse (byte items.length
              :: items.flatMap fun k => [byte k.val, r.notices[k].toByte])))
      ∧ s.LeasesKept t ∧ s.OutputsKept t ∧ s.TripKept t

/-- QUERY SESSION, QUERY TIMEBASE and LIST LEASES report the record they name as it stands and change nothing but for
the renewal (R18, R21, R66, R142). -/
def Obligations.QueriesReportTheRecord : Prop :=
  ∀ (s : State) (l : Link) (ps : List Byte) (n : SessionNo) (r : SessionRecord), s.Settled →
    (s.Serves .querySession l ps n r → ∀ j : SessionNo, arg ps 1 = j.val →
      ∃ t, exec .querySession s = .next t
        ∧ s.AnsweredAlone t l (goodResponse (sessionReport j
            (if j = n then some r.renewed else s.sessions[j]) (s.heldCount j))) n r)
    ∧ (s.Serves .queryTimebase l ps n r → ∀ tb : TimebaseNo, arg ps 1 = tb.val →
      ∃ t, exec .queryTimebase s = .next t
        ∧ s.AnsweredAlone t l (goodResponse (timebaseReport tb s.timebases[tb])) n r)
    ∧ (s.Serves .listLeases l ps n r → ∀ j : SessionNo, arg ps 1 = j.val →
      ∃ t, ∃ items : List LeaseNo, items.Pairwise (· < ·) ∧ (∀ k, k ∈ items ↔ heldBy s.leases[k] j = true)
        ∧ exec .listLeases s = .next t
        ∧ s.AnsweredAlone t l (goodResponse ([byte j.val, byte items.length]
            ++ items.flatMap fun k => [byte k.val, leaseCode s.leases[k]])) n r)

/-- QUERY LEASE in both views and FIND BY PIN report the record they name as it stands and change nothing but for the
renewal (R18, R19, R20, R22). -/
def Obligations.LookupsReportTheLease : Prop :=
  ∀ (s : State) (l : Link) (ps : List Byte) (n : SessionNo) (r : SessionRecord), s.Settled →
    (s.Serves .queryLease l ps n r → ∀ k : LeaseNo, arg ps 1 = k.val → arg ps 2 = 0 →
      ∃ t, exec .queryLease s = .next t
        ∧ s.AnsweredAlone t l (goodResponse (leaseReport k s.leases[k] none)) n r)
    ∧ (s.Serves .queryLease l ps n r → ∀ (k : LeaseNo) (x : LeaseRecord) (staged : List Settings),
      arg ps 1 = k.val → arg ps 2 = 1 → s.leases[k] = some x → x.phase = .amendPending staged →
      ∃ t, exec .queryLease s = .next t
        ∧ s.AnsweredAlone t l (goodResponse (leaseReport k s.leases[k] (some staged))) n r)
    ∧ (s.Serves .findByPin l ps n r → ∀ p : PinNo, arg ps 1 = p.val →
      ∃ t, exec .findByPin s = .next t
        ∧ s.AnsweredAlone t l (goodResponse (byte p.val
            :: (match s.pins[p].owner with
                | none => [0xFF, 0xFF, 0xFF]
                | some o => [byte o.place.lease.val, byte o.place.index, o.place.role.code])
            ++ [s.pins[p].level.code, s.pins[p].rest.code])) n r)

/-- At a tick every OPEN session's time and every LAPSED session's hold fall by one; those that reach 0 lapse or are
closed, and reach their own leases alone (R130). One session's own timer happening is its fall, its lapse or its
closing, and the tick of all sessions is the eight of them in ascending order, which fixes the notices, channels,
engines, pins and timebases by what LAPSE and HOLD_EXPIRY state: the model's choice (log 7). -/
def Obligations.TickMovesEveryTimer : Prop :=
  ∀ s : State, s.resetHeld = false →
    (∃ t, exec (.tick none) s = .next t
      ∧ (∀ n : SessionNo,
          match s.sessions[n] with
          | none => t.sessions[n] = none
          | some r =>
            match r.status with
            | .opened x =>
              if 1 < x then t.sessions[n] = some { r with status := .opened (x - 1) }
              else ∃ r', t.sessions[n] = some r'
                ∧ r' = { r with status := .lapsed (4 * r.interval), notices := r'.notices }
            | .lapsed x =>
              t.sessions[n] = if 1 < x then some { r with status := .lapsed (x - 1) } else none)
      ∧ (∀ k : LeaseNo,
          match s.leases[k] with
          | none => t.leases[k] = none
          | some r =>
            match (s.sessions[r.holder] : Session).map SessionRecord.status with
            | none => t.leases[k] = some r
            | some (.opened x) =>
              if 1 < x then t.leases[k] = some r else ∃ r', t.leases[k] = some r' ∧ r.IsTripped r' .lapse
            | some (.lapsed x) => t.leases[k] = if 1 < x then some r else none)
      ∧ s.TripKept t ∧ s.LinksKept t ∧ s.WavesKept t ∧ t.resetHeld = false ∧ t.Settled)
    ∧ (∃ f : Nat → State, f 0 = s ∧ (∀ n : SessionNo, exec (.tick (some n)) (f n.val) = .next (f (n.val + 1)))
      ∧ exec (.tick none) s = .next (f 8))
    ∧ ∀ n : SessionNo, s.Settled →
        (s.sessions[n] = none → exec (.tick (some n)) s = .next s)
        ∧ ∀ r x, s.sessions[n] = some r →
          (r.status = .opened x → x ≤ 1 → exec (.tick (some n)) s = exec (.lapse n) s)
          ∧ (r.status = .lapsed x → x ≤ 1 → exec (.tick (some n)) s = exec (.holdExpiry n) s)
          ∧ (1 < x → ∀ st, (r.status = .opened x ∧ st = .opened (x - 1)) ∨ (r.status = .lapsed x ∧ st = .lapsed (x - 1)) →
            ∃ t, exec (.tick (some n)) s = .next t ∧ t.sessions[n] = some { r with status := st }
              ∧ s.OtherSessionsKept t n ∧ s.LeasesKept t ∧ s.OutputsKept t ∧ s.TripKept t ∧ s.LinksKept t
              ∧ t.resetHeld = false)

/-- A lapse makes the session LAPSED with a hold of four intervals, trips each of its leases with LAPSE and records
TRIPPED in its own set (R131). -/
def Obligations.LapseTripsTheSessionsLeases : Prop :=
  ∀ (s : State) (n : SessionNo) (r : SessionRecord) (x : Nat), s.resetHeld = false →
    s.sessions[n] = some r → r.status = .opened x → x ≤ 1 → s.CountsAgree →
    ∃ t, exec (.lapse n) s = .next t ∧ s.TripTaken t (fun q => q.holder == n) .lapse
      ∧ (s.setSession n (some { r with status := .lapsed (4 * r.interval) })).NoticesRecorded t
          (trippedKinds s.leases fun q => q.holder == n)
      ∧ s.TripKept t ∧ s.LinksKept t ∧ t.resetHeld = false ∧ t.Settled

/-- Hold expiry tears down every lease the session still holds, discards its notices and frees its record (R134). -/
def Obligations.HoldExpiryClosesTheSession : Prop :=
  ∀ (s : State) (n : SessionNo) (r : SessionRecord) (x : Nat), s.resetHeld = false →
    s.sessions[n] = some r → r.status = .lapsed x → x ≤ 1 → s.CountsAgree →
    ∃ t, exec (.holdExpiry n) s = .next t ∧ s.TornDown t (fun k => heldBy s.leases[k] n)
      ∧ t.sessions[n] = none ∧ s.OtherSessionsKept t n ∧ s.TripKept t ∧ s.LinksKept t ∧ t.resetHeld = false
      ∧ t.Settled

/-! ## Claims -/

/-- An accepted CLAIM, its request as its parameter bytes spell it (R24, R170), fills the lowest FREE lease ARMED, takes
its channels, engines and pins, and joins its timebase or starts it (R37, R38, R39, R40, R41). -/
def Obligations.ClaimFillsTheLowestFreeLease : Prop :=
  ∀ (s : State) (l : Link) (ps : List Byte) (n : SessionNo) (r : SessionRecord) (q : ClaimRequest) (k : LeaseNo)
    (governing : Nat) (placed : List (Nat × ChannelNo)),
    s.Serves .claim l ps n r → ClaimSpelled ps q →
    s.leases[k] = none → (∀ j : LeaseNo, j < k → s.leases[j] ≠ none) → s.heldCount n ≠ r.quota →
    (∀ p ∈ q.pins, s.pins[p].owner = none) →
    (∀ b ∈ q.blocks, b.complementPin ≠ none → safePairFits b.settings.polarity b.safe b.complementSafe = true) →
    (match s.timebases[q.timebase].run with
      | none => q.period ≠ 0 ∧ governing = q.period
      | some x => governing = x.coming
          ∧ (q.period = 0 ∨ (q.period = x.coming ∧ q.prescale = s.timebases[q.timebase].prescale))) →
    (∀ b ∈ q.blocks, b.settings.duty ≤ governing
      ∧ ∀ x, s.timebases[q.timebase].run = some x → b.settings.duty ≤ x.period) →
    (∀ b ∈ q.blocks, ∀ c, b.settings.gate = some c → (s.carrier c).divider ≠ 0) →
    (∀ i, q.subscription.has i = true → (s.trip.input i).latch = false) →
    s.trip.supplyLatch = false → s.trip.haltLatch = false →
    allocate s.channels (q.blocks.map fun b => b.complementPin.isSome) = .ok placed →
    ∃ t rec, exec .claim s = .next t ∧ t.leases[k] = some rec
      ∧ rec = { holder := n, timebase := q.timebase, subscription := q.subscription,
                bindings := q.bindings placed, generation := 0, phase := .armed }
      ∧ s.OtherLeasesKept t k ∧ t.BindingsServed k rec
      ∧ (∀ b ∈ rec.bindings, ∀ h ∈ b.halves, t.pins[h.2.2].level = b.safeFor h.1)
      ∧ (∀ c : ChannelNo, (∀ b ∈ rec.bindings, ∀ h ∈ b.halves, h.2.1 ≠ c) →
          t.channels[c] = s.channels[c] ∧ t.engines[c].bare = s.engines[c].bare)
      ∧ (∀ p : PinNo, t.pins[p].rest = s.pins[p].rest
          ∧ ((∀ b ∈ rec.bindings, ∀ h ∈ b.halves, h.2.2 ≠ p) → t.pins[p].owner = s.pins[p].owner))
      ∧ t.timebases[q.timebase]
          = (match s.timebases[q.timebase].run with
             | none => { prescale := q.prescale, counter := s.timebases[q.timebase].counter,
                         refCount := s.timebases[q.timebase].refCount + rec.bindings.length
                         run := some { period := q.period, staged := none, holder := k, startPending := true } }
             | some x => { prescale := s.timebases[q.timebase].prescale,
                           counter := s.timebases[q.timebase].counter
                           refCount := s.timebases[q.timebase].refCount + rec.bindings.length, run := some x })
      ∧ s.OtherTimebasesKept t q.timebase ∧ s.WavesKept t
      ∧ (∀ c : Carrier, (t.carrier c).inUse
          = (s.carrier c).inUse + (q.blocks.filter fun b => b.settings.gate = some c).length)
      ∧ s.Renews t n r ∧ s.TripKept t ∧ t.Settled
      ∧ s.Answered t l (goodResponse ([byte k.val, 1, flagByte s.timebases[q.timebase].run.isNone] ++ twoBytes governing
            ++ [byte rec.bindings.length]
            ++ rec.bindings.flatMap fun b => [byte b.channel.val, indexByte (b.complement.map (·.channel))]))

/-- A claim is refused at the first of its ten steps that fails, with that step's status and detail: a field or a block
that the parameter bytes misspell, then, of the request they spell, the record, the quota, the pins, the safe
levels, the timebase, the duties, the carriers, the latches and the channels (R25 to R36). -/
def Obligations.ClaimRefusesInOrder : Prop :=
  ∀ (s : State) (l : Link) (ps : List Byte) (n : SessionNo) (r : SessionRecord) (status : Status) (detail : Byte),
    s.Serves .claim l ps n r → s.Settled →
    ((ClaimMisspelled ps detail ∧ status = .badArgument)
      ∨ ∃ q, ClaimSpelled ps q ∧ s.ClaimRefused n r q status detail) →
    ∃ t, exec .claim s = .next t
      ∧ s.AnsweredAlone t l { status := status, detail := detail, data := [] } n r

/-- An allocation gives each complementary binding in index order the lowest-numbered free even channel with its free
odd partner, then each single binding the lowest-numbered channel left, all of them different (R35); where it fails it
names the first complementary binding that found no pair or, every pair placed, the first single binding that found
no channel (R36). -/
def Obligations.AllocationTakesAlignedPairs : Prop :=
  ∀ (map : Vector (Option Place) 12) (kinds : List Bool),
    (∀ placed, allocate map kinds = .ok placed →
      PairsPlaced map kinds (placedAt placed) kinds.length
      ∧ SinglesPlaced map kinds (placedAt placed) kinds.length
      ∧ ∀ i (hi : i < kinds.length),
        map[placedAt placed i] = none
          ∧ (kinds[i] = true → (placedAt placed i).val % 2 = 0 ∧ map[placedAt placed i + 1] = none)
          ∧ ∀ j (hj : j < kinds.length), j ≠ i → placedAt placed j ≠ placedAt placed i
              ∧ (kinds[i] = true → placedAt placed j ≠ placedAt placed i + 1))
    ∧ ∀ k, allocate map kinds = .error k →
      ∃ f : Nat → ChannelNo, PairsPlaced map kinds f (if kinds[k]? = some true then k else kinds.length)
        ∧ ((kinds[k]? = some true ∧ ∀ c, ¬ PairFree map kinds f k c)
          ∨ (kinds[k]? = some false ∧ SinglesPlaced map kinds f k ∧ ∀ c, ¬ SingleFree map kinds f k c))

/-! ## Amending and retiring -/

/-- A served command is refused at the first of its own checks that fails, with that check's status and detail: the
lease guard of AMEND, RETIRE, CLEAR TRIP, ADOPT and QUERY LEASE with ADOPT's quota after it (R12 to R14, R137);
AMEND's steps 4 to 7 (R69 to R72); RETUNE's five (R60 to R62); the permission, the fields and the uses of the
configuration commands (R97, R101, R119, R121, R140); the class for HALT ALL and RELEASE HALT (R108, R109); and the
fields of READ FAULTS and the queries (R21, R22, R66, R117, R142). -/
def Obligations.OwnChecksRefuseInOrder : Prop :=
  ∀ (s : State) (c : Command) (l : Link) (ps : List Byte) (n : SessionNo) (r : SessionRecord)
    (status : Status) (detail : Byte),
    s.Serves c l ps n r → s.Settled →
    (s.GuardRefuses c n r ps status detail
      ∨ (c = .amend ∧ s.AmendRefuses n r ps status detail)
      ∨ (c = .retune ∧ s.RetuneRefused n r ps status detail)
      ∨ s.OwnChecksRefuse c r ps status detail) →
    ∃ t, exec c.instr s = .next t
      ∧ s.AnsweredAlone t l { status := status, detail := detail, data := [] } n r

/-- An accepted AMEND creates the lease's staged change, as its parameter bytes spell it (R68, R170), or replaces it
whole, while the lease goes on generating from its active settings (R73, R74). -/
def Obligations.AmendStagesTheChange : Prop :=
  ∀ (s : State) (l : Link) (ps : List Byte) (n : SessionNo) (r : SessionRecord) (k : LeaseNo) (x : LeaseRecord)
    (staged : List Settings) (y : TimebaseRun),
    s.Serves .amend l ps n r → s.Settled → s.CountsAgree → arg ps 1 = k.val → s.leases[k] = some x →
    x.holder = n → (x.phase = .running ∨ ∃ old, x.phase = .amendPending old) →
    arg ps 2 = (ps.length - 3) / 4 → arg ps 2 = x.bindings.length → staged.length = x.bindings.length →
    AmendSpelled ps x.bindings staged →
    s.timebases[x.timebase].run = some y → (∀ st ∈ staged, st.duty ≤ y.coming) →
    (∀ z ∈ x.bindings.zip staged, ∀ p, z.1.complement = some p →
      safePairFits z.2.polarity z.1.safe p.safe = true) →
    (∀ st ∈ staged, ∀ c, st.gate = some c → (s.carrier c).divider ≠ 0) →
    ∃ t, exec .amend s = .next t ∧ t.leases[k] = some { x with phase := .amendPending staged }
      ∧ s.OtherLeasesKept t k
      ∧ (∀ c : ChannelNo, t.engines[c].isGenerating = s.engines[c].isGenerating
          ∧ t.engines[c].use? = s.engines[c].use?.map fun u =>
              if u.place.lease = k then { u with staged := staged[u.place.index]? } else u)
      ∧ t.pins = s.pins ∧ t.channels = s.channels ∧ t.timebases = s.timebases ∧ s.WavesKept t
      ∧ (∀ c : Carrier, (t.carrier c).inUse = carrierUses t.leases c)
      ∧ s.Renews t n r ∧ s.TripKept t
      ∧ s.Answered t l (goodResponse ([byte k.val, 3, x.generation] ++ twoBytes y.coming))

/-- RETIRE IMMEDIATE frees a lease in any state, and the other modes free one that is ARMED or TRIPPED (R78, R79). -/
def Obligations.RetireFreesAtOnce : Prop :=
  ∀ (s : State) (l : Link) (ps : List Byte) (n : SessionNo) (r : SessionRecord) (k : LeaseNo) (x : LeaseRecord),
    s.Serves .retire l ps n r → s.CountsAgree → arg ps 1 = k.val → s.leases[k] = some x →
    (x.holder = n ∨ r.cls = .supervisor) →
    (arg ps 2 = 0 ∨ ((arg ps 2 = 1 ∨ (arg ps 2 = 2 ∧ arg ps 3 ≠ 0))
      ∧ (x.phase = .armed ∨ ∃ causes p, x.phase = .tripped causes p))) →
    ∃ t, exec .retire s = .next t ∧ s.TornDown t (fun j => j == k) ∧ s.Renews t n r ∧ s.TripKept t ∧ t.Settled
      ∧ s.Answered t l (goodResponse ([byte k.val, 0, 0xFF, 0]))

/-- RETIRE AT_BOUNDARY or RAMP on a RUNNING or AMEND_PENDING lease starts its drain, with a staged change discarded
(R11, R78, R80). -/
def Obligations.RetireStartsADrain : Prop :=
  ∀ (s : State) (l : Link) (ps : List Byte) (n : SessionNo) (r : SessionRecord) (k : LeaseNo) (x : LeaseRecord)
    (plan : RetirePlan) (planBytes : List Byte),
    s.Serves .retire l ps n r → s.Settled → s.CountsAgree → arg ps 1 = k.val → s.leases[k] = some x →
    (x.holder = n ∨ r.cls = .supervisor) → (x.phase = .running ∨ ∃ old, x.phase = .amendPending old) →
    ((arg ps 2 = 1 ∧ plan = .atBoundary ∧ planBytes = [1, 0])
      ∨ (arg ps 2 = 2 ∧ arg ps 3 ≠ 0 ∧ plan = .ramp (arg ps 3) ∧ planBytes = [2, byte (arg ps 3)])) →
    ∃ t, exec .retire s = .next t ∧ t.leases[k] = some { x with phase := .draining plan }
      ∧ s.OtherLeasesKept t k
      ∧ (∀ c : ChannelNo, t.engines[c].isGenerating = s.engines[c].isGenerating
          ∧ t.engines[c].use? = s.engines[c].use?.map fun u =>
              if u.place.lease = k then { u with staged := none } else u)
      ∧ t.pins = s.pins ∧ t.channels = s.channels ∧ t.timebases = s.timebases ∧ s.WavesKept t
      ∧ (∀ c : Carrier, (t.carrier c).inUse = carrierUses t.leases c)
      ∧ s.Renews t n r ∧ s.TripKept t
      ∧ s.Answered t l (goodResponse ([byte k.val, 4] ++ planBytes))

/-! ## Timebases -/

/-- An accepted RETUNE writes the staged period and changes nothing else (R60, R61, R62, R63). -/
def Obligations.RetuneStagesThePeriod : Prop :=
  ∀ (s : State) (l : Link) (ps : List Byte) (n : SessionNo) (r : SessionRecord) (tb : TimebaseNo)
    (x : TimebaseRun),
    s.Serves .retune l ps n r → s.Settled → arg ps 1 = tb.val → s.timebases[tb].run = some x →
    (heldBy s.leases[x.holder] n = true ∨ r.cls = .supervisor) → 16 ≤ arg2 ps 2 → arg2 ps 2 ≤ 4095 →
    (∀ k : LeaseNo, leaseHas s.leases[k] fun q => q.timebase = tb →
      (∀ b ∈ q.bindings, b.active.duty ≤ arg2 ps 2) ∧ ∀ st ∈ q.stagedChange, st.duty ≤ arg2 ps 2) →
    ∃ t, exec .retune s = .next t
      ∧ t.timebases[tb] = { s.timebases[tb] with run := some { x with staged := some (arg2 ps 2) } }
      ∧ s.OtherTimebasesKept t tb ∧ t.leases = s.leases ∧ t.channels = s.channels
      ∧ t.carrierA = s.carrierA ∧ t.carrierB = s.carrierB ∧ s.OutputsKept t ∧ s.TripKept t ∧ s.Renews t n r
      ∧ s.Answered t l (goodResponse ([byte tb.val] ++ twoBytes x.period ++ twoBytes (arg2 ps 2)))

/-- A count lowers the counter of a started timebase by one, and the engines and pins follow it (R50): `Settled` after
it is, by `OutputsShowWhatTheRulesGive`, the levels of R86 to R95 at the new count. -/
def Obligations.CountLowersTheCounter : Prop :=
  ∀ (s : State) (tb : TimebaseNo) (x : TimebaseRun), s.resetHeld = false → s.timebases[tb].run = some x →
    x.startPending = false → s.timebases[tb].counter ≠ 0 →
    ∃ t, exec (.count tb) s = .next t
      ∧ t.timebases[tb] = { s.timebases[tb] with counter := s.timebases[tb].counter - 1 }
      ∧ s.OtherTimebasesKept t tb ∧ t.leases = s.leases ∧ t.channels = s.channels ∧ t.carrierA = s.carrierA
      ∧ t.carrierB = s.carrierB ∧ s.HoldingsKept t ∧ t.sessions = s.sessions ∧ s.TripKept t ∧ s.LinksKept t
      ∧ t.resetHeld = false ∧ t.Settled

/-- At a boundary the coming period is in force, no period is staged, start pending is clear and the counter holds the
period less one; the holder is as succession gives, and a timebase that its last drain leaves goes IDLE
(R50, R51, R53, R64, R65). -/
def Obligations.BoundaryReloadsTheTimebase : Prop :=
  ∀ (s : State) (i : Instr) (tb : TimebaseNo) (x : TimebaseRun), s.TakesBoundary i tb x → s.CountsAgree →
    s.LeasesShaped → s.HoldersAgree →
    ∃ t, exec i s = .next t ∧ s.OtherTimebasesKept t tb
      ∧ (bindingsOn t.leases tb = 0 → t.timebases[tb]
          = { prescale := s.timebases[tb].prescale, counter := 0, refCount := 0, run := none })
      ∧ (bindingsOn t.leases tb ≠ 0 → ∃ h, IsHolderAfter t.leases tb x.holder h
          ∧ t.timebases[tb] = { prescale := s.timebases[tb].prescale, counter := x.coming - 1,
                                refCount := bindingsOn t.leases tb
                                run := some { period := x.coming, staged := none, holder := h,
                                              startPending := false } })

/-- A boundary moves every lease bound to its timebase as its state gives and the engines with it, each HELD or
GENERATING under the settings and the period now in force (R54, R55, R57, R87, R88, R92); it frees a lease whose drain
ends, with its channels, engines and pins (R16, R56, R57); it records the notices of those moves and of a retune
(R53, R58); and it reaches nothing of any other lease. -/
def Obligations.BoundaryMovesItsLeases : Prop :=
  ∀ (s : State) (i : Instr) (tb : TimebaseNo) (x : TimebaseRun), s.TakesBoundary i tb x → s.CountsAgree →
    s.LeasesShaped →
    ∃ t kinds, exec i s = .next t
      ∧ (∀ k : LeaseNo,
          (s.leases[k] = none → t.leases[k] = none)
          ∧ ∀ r, s.leases[k] = some r →
            (r.timebase ≠ tb → t.leases[k] = some r ∧ kinds k = KindSet.empty)
            ∧ (r.timebase = tb → r.BoundaryNotices x.staged.isSome (kinds k)
                ∧ (r.DrainEnds → t.leases[k] = none)
                ∧ (¬ r.DrainEnds → ∃ r', t.leases[k] = some r' ∧ r.IsMoved r')))
      ∧ s.NoticesRecorded t kinds
      ∧ (∀ c : ChannelNo, t.channels[c] = if s.channels[c].any (fun p => boundTo s.leases[p.lease] tb
          && t.leases[p.lease].isNone) then none else s.channels[c])
      ∧ (∀ c : ChannelNo,
          (s.engines[c] = .unused → t.engines[c] = .unused)
          ∧ ∀ u, s.engines[c].use? = some u →
            (boundTo s.leases[u.place.lease] tb = false → t.engines[c].bare = s.engines[c].bare)
            ∧ ∀ r, s.leases[u.place.lease] = some r → r.timebase = tb →
              (r.DrainEnds → t.engines[c] = .unused)
              ∧ (¬ r.DrainEnds → t.engines[c].bare = s.engines[c].movedBare u r x.coming))
      ∧ (∀ p : PinNo, t.pins[p].rest = s.pins[p].rest
          ∧ t.pins[p].owner = if s.pins[p].owner.any (fun o => boundTo s.leases[o.place.lease] tb
              && t.leases[o.place.lease].isNone) then none else s.pins[p].owner)
      ∧ s.WavesKept t ∧ (∀ c : Carrier, (t.carrier c).inUse = carrierUses t.leases c)
      ∧ s.TripKept t ∧ s.LinksKept t ∧ t.resetHeld = false ∧ t.Settled

/-! ## Trips -/

/-- CLEAR TRIP removes each cause whose latch is clear, LAPSE always, and leaves the lease TRIPPED, ARMED or torn down
(R113, R114, R115). -/
def Obligations.ClearTripRemovesCauses : Prop :=
  ∀ (s : State) (l : Link) (ps : List Byte) (n : SessionNo) (r : SessionRecord) (k : LeaseNo) (x : LeaseRecord)
    (causes remaining removed : SourceSet) (retiring : Bool),
    s.Serves .clearTrip l ps n r → s.CountsAgree → s.Settled → arg ps 1 = k.val → s.leases[k] = some x →
    (x.holder = n ∨ r.cls = .supervisor) → x.phase = .tripped causes retiring →
    remaining = { flt0 := causes.flt0 && s.trip.flt0.latch, flt1 := causes.flt1 && s.trip.flt1.latch,
                  supply := causes.supply && s.trip.supplyLatch, halt := causes.halt && s.trip.haltLatch,
                  lapse := false } →
    removed = { flt0 := causes.flt0 && !s.trip.flt0.latch, flt1 := causes.flt1 && !s.trip.flt1.latch,
                supply := causes.supply && !s.trip.supplyLatch, halt := causes.halt && !s.trip.haltLatch,
                lapse := causes.lapse } →
    ∃ t, exec .clearTrip s = .next t ∧ s.Renews t n r ∧ s.TripKept t
      ∧ (remaining ≠ SourceSet.empty →
          t.leases[k] = some { x with phase := .tripped remaining retiring } ∧ s.OtherLeasesKept t k
          ∧ t.channels = s.channels ∧ t.timebases = s.timebases ∧ t.carrierA = s.carrierA
          ∧ t.carrierB = s.carrierB ∧ s.OutputsKept t
          ∧ s.Answered t l (Response.mk .faultActive remaining.toByte
              [byte k.val, 5, removed.toByte, remaining.toByte]))
      ∧ (remaining = SourceSet.empty → retiring = false →
          t.leases[k] = some { x with phase := .armed } ∧ s.OtherLeasesKept t k
          ∧ t.channels = s.channels ∧ t.timebases = s.timebases ∧ t.carrierA = s.carrierA
          ∧ t.carrierB = s.carrierB ∧ s.OutputsKept t
          ∧ s.Answered t l (goodResponse ([byte k.val, 1, removed.toByte, 0])))
      ∧ (remaining = SourceSet.empty → retiring = true →
          s.TornDown t (fun j => j == k) ∧ t.Settled
          ∧ s.Answered t l (goodResponse ([byte k.val, 0, removed.toByte, 0])))

/-- READ FAULTS clears the latches of the sources its mask names that are not asserted, leaves the halt latch, and
reports the unit before and after (R117, R118). -/
def Obligations.ReadFaultsClearsIdleLatches : Prop :=
  ∀ (s : State) (l : Link) (ps : List Byte) (n : SessionNo) (r : SessionRecord),
    s.Serves .readFaults l ps n r → s.Settled → arg ps 1 < 8 →
    ∃ t, exec .readFaults s = .next t
      ∧ t.trip.flt0 = { s.trip.flt0 with
          latch := s.trip.flt0.latch && !((arg ps 1).testBit 0 && !s.trip.flt0.asserted) }
      ∧ t.trip.flt1 = { s.trip.flt1 with
          latch := s.trip.flt1.latch && !((arg ps 1).testBit 1 && !s.trip.flt1.asserted) }
      ∧ t.trip.supplyLatch = (s.trip.supplyLatch && !((arg ps 1).testBit 2 && !s.trip.supplyLow))
      ∧ t.trip.haltLatch = s.trip.haltLatch ∧ t.trip.supplyLow = s.trip.supplyLow
      ∧ t.trip.threshold = s.trip.threshold ∧ t.supplyMv = s.supplyMv
      ∧ s.Answered t l (goodResponse ([s.trip.latches.toByte,
          s.trip.assertedSources.toByte, t.trip.latches.toByte, s.trip.edgeByte, byte s.trip.threshold.val]))
      ∧ s.Renews t n r ∧ s.LeasesKept t ∧ s.OutputsKept t

/-- HALT ALL sets the halt latch and, where it was clear, takes the trip of HALT on every non-FREE lease (R108). -/
def Obligations.HaltAllTripsEveryLease : Prop :=
  ∀ (s : State) (l : Link) (ps : List Byte) (n : SessionNo) (r : SessionRecord),
    s.Serves .haltAll l ps n r → r.cls = .supervisor → s.CountsAgree → s.Settled →
    ∃ t, exec .haltAll s = .next t ∧ t.trip = { s.trip with haltLatch := true } ∧ t.supplyMv = s.supplyMv
      ∧ (s.trip.haltLatch = true → s.Renews t n r ∧ s.LeasesKept t ∧ s.OutputsKept t
          ∧ s.Answered t l (goodResponse ([1, 0])))
      ∧ (s.trip.haltLatch = false → s.TripTaken t (fun _ => true) .halt
          ∧ (s.renewed n).NoticesRecorded t (trippedKinds s.leases fun _ => true) ∧ t.Settled
          ∧ s.Answered t l (goodResponse ([0, byte ((List.finRange 16).filter fun k => s.leases[k].isSome).length])))

/-- RELEASE HALT clears the halt latch and removes no cause (R109). -/
def Obligations.ReleaseHaltClearsTheLatch : Prop :=
  ∀ (s : State) (l : Link) (ps : List Byte) (n : SessionNo) (r : SessionRecord),
    s.Serves .releaseHalt l ps n r → s.Settled → r.cls = .supervisor →
    ∃ t, exec .releaseHalt s = .next t ∧ t.trip = { s.trip with haltLatch := false } ∧ t.supplyMv = s.supplyMv
      ∧ s.Answered t l (goodResponse ([flagByte s.trip.haltLatch,
          byte ((List.finRange 16).filter fun k => s.leases[k].any fun x => x.causes.halt).length]))
      ∧ s.Renews t n r ∧ s.LeasesKept t ∧ s.OutputsKept t

/-- SET FAULT EDGE selects the edge of an input no lease subscribes to and takes its asserted condition afresh from its
seen level; an input found asserted has its latch set, which reaches no lease (R120). -/
def Obligations.SetFaultEdgeTakesTheConditionAfresh : Prop :=
  ∀ (s : State) (l : Link) (ps : List Byte) (n : SessionNo) (r : SessionRecord) (i : FaultLine) (e : Edge)
    (found : Bool),
    s.Serves .setFaultEdge l ps n r → s.Settled → ((∀ m, s.isSupervisor m = false) ∨ r.cls = .supervisor) →
    arg ps 1 = (match i with | .flt0 => 0 | .flt1 => 1) → arg ps 2 = (match e with | .falling => 0 | .rising => 1) →
    (∀ k : LeaseNo, leaseHas s.leases[k] fun x => x.subscription.has i = false) →
    found = decide ((s.trip.input i).seen = (match e with | .falling => LineLevel.low | .rising => .high)) →
    ∃ t, exec .setFaultEdge s = .next t
      ∧ t.trip.input i = { s.trip.input i with
          edge := e, asserted := found, latch := found || (s.trip.input i).latch }
      ∧ (∀ j, j ≠ i → t.trip.input j = s.trip.input j) ∧ t.trip.threshold = s.trip.threshold
      ∧ t.trip.supplyLow = s.trip.supplyLow ∧ t.trip.supplyLatch = s.trip.supplyLatch
      ∧ t.trip.haltLatch = s.trip.haltLatch ∧ t.supplyMv = s.supplyMv
      ∧ s.Answered t l (goodResponse ([byte (arg ps 1), byte (arg ps 2),
          flagByte found, flagByte (found || (s.trip.input i).latch)]))
      ∧ s.Renews t n r ∧ s.LeasesKept t ∧ s.OutputsKept t

/-- SET SUPPLY LEVEL writes the threshold code and compares the supply with its levels: below, the condition is yes and
a clear latch is set with the trip of SUPPLY; at or above the threshold plus 100 mV the condition is no; between
the two both are kept (R106, R121). -/
def Obligations.SetSupplyLevelComparesAgain : Prop :=
  ∀ (s : State) (l : Link) (ps : List Byte) (n : SessionNo) (r : SessionRecord) (code : Fin 8) (low latch : Bool),
    s.Serves .setSupplyLevel l ps n r → s.CountsAgree → s.Settled →
    ((∀ m, s.isSupervisor m = false) ∨ r.cls = .supervisor) → arg ps 1 = code.val →
    low = (if s.supplyMv < Config.thresholdMv code then true
      else if Config.thresholdMv code + 100 ≤ s.supplyMv then false else s.trip.supplyLow) →
    latch = (decide (s.supplyMv < Config.thresholdMv code) || s.trip.supplyLatch) →
    ∃ t, exec .setSupplyLevel s = .next t
      ∧ t.trip = { s.trip with threshold := code, supplyLow := low, supplyLatch := latch }
      ∧ t.supplyMv = s.supplyMv
      ∧ s.Answered t l (goodResponse ([byte code.val, flagByte low, flagByte latch]))
      ∧ (latch = s.trip.supplyLatch → s.Renews t n r ∧ s.LeasesKept t ∧ s.OutputsKept t)
      ∧ (latch ≠ s.trip.supplyLatch → s.TripTaken t (fun _ => true) .supply
          ∧ (s.renewed n).NoticesRecorded t (trippedKinds s.leases fun _ => true) ∧ t.Settled)

/-- A change of level on a fault input starts the filter and leaves the seen level, the condition, the latch and all
else as they were (R104). -/
def Obligations.FaultInputChangeMovesTheInputAlone : Prop :=
  ∀ (s : State) (i : FaultLine) (level : LineLevel),
    ∃ t, exec (.faultInputChange i level) s = .next t
      ∧ t.trip.input i = { s.trip.input i with level := level }
      ∧ (∀ j, j ≠ i → t.trip.input j = s.trip.input j) ∧ t.trip.threshold = s.trip.threshold
      ∧ t.trip.supplyLow = s.trip.supplyLow ∧ t.trip.supplyLatch = s.trip.supplyLatch
      ∧ t.trip.haltLatch = s.trip.haltLatch ∧ t.supplyMv = s.supplyMv ∧ s.LeasesKept t ∧ s.OutputsKept t
      ∧ t.sessions = s.sessions ∧ t.linkA = s.linkA ∧ t.linkB = s.linkB ∧ t.lastServed = s.lastServed
      ∧ t.rstn = s.rstn ∧ t.resetHeld = s.resetHeld ∧ t.freeCount = s.freeCount ∧ t.pending = s.pending

/-- An edge of the selected kind asserts the input, and a clear latch is set with the trip of its source; a latch set
already takes no trip. A release ends the assertion and keeps the latch and every cause (R105). -/
def Obligations.FaultEdgeAndRelease : Prop :=
  ∀ (s : State) (i : FaultLine) (x : FaultInput), s.resetHeld = false → s.CountsAgree → s.Settled →
    s.trip.input i = x → x.level ≠ x.seen →
    (x.level = (match x.edge with | .falling => LineLevel.low | .rising => .high) →
      ∃ t, exec (.faultEdge i) s = .next t
        ∧ t.trip.input i = { x with seen := x.level, asserted := true, latch := true }
        ∧ (∀ j, j ≠ i → t.trip.input j = s.trip.input j) ∧ t.trip.threshold = s.trip.threshold
        ∧ t.trip.supplyLow = s.trip.supplyLow ∧ t.trip.supplyLatch = s.trip.supplyLatch
        ∧ t.trip.haltLatch = s.trip.haltLatch ∧ t.supplyMv = s.supplyMv ∧ s.LinksKept t ∧ t.resetHeld = false
        ∧ (x.latch = true → t.sessions = s.sessions ∧ s.LeasesKept t ∧ s.OutputsKept t)
        ∧ (x.latch = false → s.TripTaken t (fun r => r.subscription.has i) (lineSource i)
            ∧ s.NoticesRecorded t (trippedKinds s.leases fun r => r.subscription.has i) ∧ t.Settled))
    ∧ (x.level ≠ (match x.edge with | .falling => LineLevel.low | .rising => .high) →
      ∃ t, exec (.faultRelease i) s = .next t
        ∧ t.trip.input i = { x with seen := x.level, asserted := false }
        ∧ (∀ j, j ≠ i → t.trip.input j = s.trip.input j) ∧ t.trip.threshold = s.trip.threshold
        ∧ t.trip.supplyLow = s.trip.supplyLow ∧ t.trip.supplyLatch = s.trip.supplyLatch
        ∧ t.trip.haltLatch = s.trip.haltLatch ∧ t.supplyMv = s.supplyMv ∧ s.LinksKept t ∧ t.resetHeld = false
        ∧ t.sessions = s.sessions ∧ s.LeasesKept t ∧ s.OutputsKept t)

/-- The supply falling below the threshold makes the condition yes and sets a clear latch with the trip of SUPPLY; a
supply that rises to the threshold plus 100 mV makes the condition no and keeps the latch; between the levels both
are kept, and below the power-on level the full reset is taken (R106, R107). -/
def Obligations.SupplyCrossesItsLevels : Prop :=
  ∀ (s : State) (mv level : Nat), s.resetHeld = false → s.CountsAgree → s.Settled →
    level = Config.thresholdMv s.trip.threshold →
    (mv < s.supplyMv → mv < 2750 → exec (.supplyFall mv) s = exec (.fullReset (.supply mv)) s)
    ∧ (mv < s.supplyMv → 2750 ≤ mv →
      ∃ t, exec (.supplyFall mv) s = .next t ∧ t.supplyMv = mv ∧ s.LinksKept t ∧ t.resetHeld = false
        ∧ t.trip = { s.trip with supplyLow := decide (mv < level) || s.trip.supplyLow,
                                 supplyLatch := (decide (mv < level) && !s.trip.supplyLow) || s.trip.supplyLatch }
        ∧ (level ≤ mv ∨ s.trip.supplyLow = true ∨ s.trip.supplyLatch = true →
            t.sessions = s.sessions ∧ s.LeasesKept t ∧ s.OutputsKept t)
        ∧ (mv < level → s.trip.supplyLow = false → s.trip.supplyLatch = false →
            s.TripTaken t (fun _ => true) .supply
            ∧ s.NoticesRecorded t (trippedKinds s.leases fun _ => true) ∧ t.Settled))
    ∧ (s.supplyMv < mv →
      ∃ t, exec (.supplyRise mv) s = .next t ∧ t.supplyMv = mv ∧ s.LinksKept t ∧ t.resetHeld = false
        ∧ t.trip = { s.trip with supplyLow := !decide (level + 100 ≤ mv) && s.trip.supplyLow }
        ∧ t.sessions = s.sessions ∧ s.LeasesKept t ∧ s.OutputsKept t)

/-! ## Pins and carriers -/

/-- SET PIN REST writes the rest level, which an unowned pin shows at once and an owned one does not show (R97). -/
def Obligations.SetPinRestWritesTheRestLevel : Prop :=
  ∀ (s : State) (l : Link) (ps : List Byte) (n : SessionNo) (r : SessionRecord) (p : PinNo) (v : Level),
    s.Serves .setPinRest l ps n r → s.Settled → s.TablesAgree →
    ((∀ m, s.isSupervisor m = false) ∨ r.cls = .supervisor) → arg ps 1 = p.val →
    arg ps 2 = (match v with | .low => 0 | .high => 1 | .float => 2) →
    ∃ t, exec .setPinRest s = .next t
      ∧ t.pins[p] = { s.pins[p] with
          rest := v, level := if s.pins[p].owner = none then v else s.pins[p].level }
      ∧ (∀ j : PinNo, j ≠ p → t.pins[j] = s.pins[j]) ∧ t.engines = s.engines
      ∧ s.Answered t l (goodResponse ([byte p.val, v.code,
          indexByte (s.pins[p].owner.map (·.place.lease)), t.pins[p].level.code]))
      ∧ s.Renews t n r ∧ s.LeasesKept t ∧ s.TripKept t

/-- SET CARRIER on a carrier not in use writes its divider and takes its level low (R101). -/
def Obligations.SetCarrierRestartsTheCarrier : Prop :=
  ∀ (s : State) (l : Link) (ps : List Byte) (n : SessionNo) (r : SessionRecord) (c : Carrier),
    s.Serves .setCarrier l ps n r → ((∀ m, s.isSupervisor m = false) ∨ r.cls = .supervisor) →
    arg ps 1 = (match c with | .ca => 1 | .cb => 2) → arg2 ps 2 ≤ 1023 → (s.carrier c).inUse = 0 →
    ∃ t, exec .setCarrier s = .next t
      ∧ t.carrier c = { divider := arg2 ps 2, high := false, inUse := 0 }
      ∧ (∀ d, d ≠ c → t.carrier d = s.carrier d) ∧ t.leases = s.leases ∧ t.channels = s.channels
      ∧ t.timebases = s.timebases ∧ s.HoldingsKept t ∧ s.Renews t n r ∧ s.TripKept t ∧ t.Settled
      ∧ s.Answered t l (goodResponse ([byte (arg ps 1)] ++ twoBytes (arg2 ps 2) ++ [0]))

/-- A RUNNING carrier toggles its level at its edge, and the gated outputs follow it (R91, R99): `Settled` after it is,
by `OutputsShowWhatTheRulesGive`, the levels of R91 under the new carrier level. A STOPPED carrier has no edge
(R99), and that one sent all the same changes nothing is the model's choice (log 6). -/
def Obligations.CarrierEdgeTogglesTheLevel : Prop :=
  ∀ (s : State) (c : Carrier), s.resetHeld = false →
    ((s.carrier c).divider ≠ 0 →
      ∃ t, exec (.carrierEdge c) s = .next t ∧ t.carrier c = { s.carrier c with high := !(s.carrier c).high }
        ∧ (∀ d, d ≠ c → t.carrier d = s.carrier d) ∧ t.leases = s.leases ∧ t.channels = s.channels
        ∧ t.timebases = s.timebases ∧ s.HoldingsKept t ∧ t.sessions = s.sessions ∧ s.TripKept t
        ∧ s.LinksKept t ∧ t.resetHeld = false ∧ t.Settled)
    ∧ ((s.carrier c).divider = 0 → s.Settled → exec (.carrierEdge c) s = .next s)

/-! ## Host links -/

/-- A well-formed command frame received by an IDLE slot is held QUEUED and clears the refused flag; nothing outside
the link is touched (R153, R156). -/
def Obligations.CommandFrameIsQueued : Prop :=
  ∀ (s : State) (l : Link) (code : Byte) (ps : List Byte) (chk : Byte), s.resetHeld = false → s.Settled →
    (s.link l).transaction = none → (s.link l).slot = .idle → 1 ≤ code.toNat → code.toNat ≤ 0x3F →
    ps.length ≤ 48 → byteSum (code :: byte ps.length :: (ps ++ [chk])) = 0 →
    ∃ t, exec (.commandFrame l (.whole code (byte ps.length :: (ps ++ [chk])))) s = .next t
      ∧ (t.link l).slot = .queued { code := code, params := ps } ∧ (t.link l).refused = false
      ∧ (t.link l).transaction = none
      ∧ (t.link l).out = s.statusByte l :: List.replicate (ps.length + 2) 0
      ∧ s.OnlyLink t l ∧ s.EverythingElseKept t

/-- A malformed frame is dropped with FRAME_FAULT and the detail of the first test it fails; a frame that finds its
slot QUEUED or DONE is refused whole and sets the refused flag (R156, R157). -/
def Obligations.CommandFrameFaultsAndRefusals : Prop :=
  ∀ (s : State) (l : Link) (code : Byte) (rest : List Byte), s.resetHeld = false → s.Settled →
    (s.link l).transaction = none → 1 ≤ code.toNat → code.toNat ≤ 0x3F →
    (∀ detail, (s.link l).slot = .idle → FrameFault code rest detail →
      ∃ t, exec (.commandFrame l (.whole code rest)) s = .next t
        ∧ (t.link l).slot = .done { status := .frameFault, detail := detail, data := [] }
        ∧ (t.link l).refused = (s.link l).refused ∧ (t.link l).transaction = none
        ∧ (t.link l).out = s.statusByte l :: List.replicate rest.length 0
        ∧ s.OnlyLink t l ∧ s.EverythingElseKept t)
    ∧ ((∃ f, (s.link l).slot = .queued f) ∨ (∃ r, (s.link l).slot = .done r) →
      ∃ t, exec (.commandFrame l (.whole code rest)) s = .next t
        ∧ (t.link l).slot = (s.link l).slot ∧ (t.link l).refused = true ∧ (t.link l).transaction = none
        ∧ (t.link l).out = s.statusByte l :: List.replicate rest.length 0
        ∧ s.OnlyLink t l ∧ s.EverythingElseKept t)

/-- A FETCH of a DONE slot sends the response with its check byte and 00h past its end, and empties the slot when the
whole response was clocked; of a slot that is not DONE it sends 00h and changes nothing (R158, R159). -/
def Obligations.FetchSendsTheResponse : Prop :=
  ∀ (s : State) (l : Link) (rest : List Byte), s.resetHeld = false → s.Settled →
    (s.link l).transaction = none →
    (∀ r chk body, (s.link l).slot = .done r → r.data.length ≤ 64 →
      body = [r.status.code, r.detail, byte r.data.length] ++ r.data ++ [chk] → byteSum body = 0 →
      ∃ t, exec (.fetch l (.whole 0x80 rest)) s = .next t
        ∧ (t.link l).out
            = s.statusByte l :: (body ++ List.replicate (rest.length - body.length) 0).take rest.length
        ∧ (t.link l).slot = (if r.data.length + 4 ≤ rest.length then .idle else .done r)
        ∧ (t.link l).refused = (s.link l).refused ∧ (t.link l).transaction = none
        ∧ s.OnlyLink t l ∧ s.EverythingElseKept t)
    ∧ ((s.link l).slot = .idle ∨ (∃ f, (s.link l).slot = .queued f) →
      ∃ t, exec (.fetch l (.whole 0x80 rest)) s = .next t
        ∧ (t.link l).out = s.statusByte l :: List.replicate rest.length 0
        ∧ (t.link l).slot = (s.link l).slot ∧ (t.link l).refused = (s.link l).refused
        ∧ (t.link l).transaction = none ∧ s.OnlyLink t l ∧ s.EverythingElseKept t)

/-- A CLEAR LINK makes the slot IDLE and clears the refused flag; with drop 01h every OPEN session of the link lapses
and its leases trip with LAPSE; with any other drop flag or none it is ignored (R141, R160). -/
def Obligations.ClearLinkDropsTheSlot : Prop :=
  ∀ (s : State) (l : Link) (rest : List Byte), s.resetHeld = false → s.Settled → (s.link l).transaction = none →
    (rest.head? = some 0 →
      ∃ t, exec (.clearLink l (.whole 0xC0 rest)) s = .next t
        ∧ (t.link l).slot = .idle ∧ (t.link l).refused = false ∧ (t.link l).transaction = none
        ∧ (t.link l).out = s.statusByte l :: List.replicate rest.length 0
        ∧ s.OnlyLink t l ∧ s.EverythingElseKept t)
    ∧ (rest.head? = some 1 → s.CountsAgree →
      ∃ t, exec (.clearLink l (.whole 0xC0 rest)) s = .next t
        ∧ (t.link l).slot = .idle ∧ (t.link l).refused = false ∧ (t.link l).transaction = none
        ∧ (t.link l).out = s.statusByte l :: List.replicate rest.length 0 ∧ s.OnlyLink t l
        ∧ (∀ n : SessionNo,
            match s.sessions[n] with
            | none => t.sessions[n] = none
            | some r =>
              if r.link = l ∧ r.isOpen = true then
                ∃ r', t.sessions[n] = some r'
                  ∧ r' = { r with status := .lapsed (4 * r.interval), notices := r'.notices }
                  ∧ ∀ k : LeaseNo, r'.notices[k]
                      = if heldBy s.leases[k] n then
                          r.notices[k].union (KindSet.inter { KindSet.empty with tripped := true } r.mask)
                        else r.notices[k]
              else t.sessions[n] = some r)
        ∧ s.TripTaken t (fun q => s.sessions[q.holder].any (fun r => r.link == l && r.isOpen)) .lapse
        ∧ s.TripKept t ∧ t.resetHeld = false ∧ t.Settled)
    ∧ (rest.head? ≠ some 0 → rest.head? ≠ some 1 →
      ∃ t, exec (.clearLink l (.whole 0xC0 rest)) s = .next t
        ∧ (t.link l).slot = (s.link l).slot ∧ (t.link l).refused = (s.link l).refused
        ∧ (t.link l).transaction = none
        ∧ (t.link l).out = s.statusByte l :: List.replicate rest.length 0
        ∧ s.OnlyLink t l ∧ s.EverythingElseKept t)

/-- A transaction whose first byte selects no kind is ignored: the slot, the refused flag and every table are left as
they were (R153). The bytes sent after the status byte are free values (log 5). -/
def Obligations.IgnoredTransactionChangesNothing : Prop :=
  ∀ (s : State) (l : Link) (b : Byte) (rest : List Byte), s.resetHeld = false → s.Settled →
    (s.link l).transaction = none → b = 0 ∨ (0x40 ≤ b.toNat ∧ b ≠ 0x80 ∧ b ≠ 0xC0) →
    ∃ t, exec (.ignoredTransaction l (.whole b rest)) s = .next t
      ∧ (t.link l).slot = (s.link l).slot ∧ (t.link l).refused = (s.link l).refused
      ∧ (t.link l).transaction = none ∧ (t.link l).out.length = rest.length + 1
      ∧ (t.link l).out.head? = some (s.statusByte l) ∧ s.LeasesKept t ∧ s.OutputsKept t ∧ s.TripKept t
      ∧ t.sessions = s.sessions ∧ t.lastServed = s.lastServed ∧ t.rstn = s.rstn ∧ t.resetHeld = false
      ∧ t.pending = s.pending ∧ (∀ m, m ≠ l → t.link m = s.link m)

/-- A transaction taken in parts with nothing between them is the whole one. The status byte is taken as chip select
falls and sent with the first byte, which selects the kind: a frame moves an IDLE slot to FILLING, where each further
byte is kept and chip select rising judges them, and is refused by a QUEUED or DONE one; a FETCH is live or not by the
slot at its 80h, whatever the executor does before chip select rises; and a transaction ignored or without a whole
byte ends with nothing done (R153, R154, R155, R156, R157, R158, R159). That a transaction may be taken in these
parts, that an ignored one or one without a byte may end under any row, and that one which a reset cut or held off
still sends its status byte with a first byte after the release, is read from the rules (log 10, DEDUCED). -/
def Obligations.TransactionsMayBeTakenInParts : Prop :=
  ∀ (s : State) (l : Link), s.Settled →
    ((s.link l).transaction = none → ∀ row : TransactionRow,
      (∃ t, exec (rowInstr row l .select) s = .next t
        ∧ t.link l = { s.link l with
            transaction := some (if s.resetHeld then .ignored (some (s.statusByte l)) else .selected (s.statusByte l))
            out := [] }
        ∧ s.OnlyLink t l ∧ s.EverythingElseKept t)
      ∧ ∀ (b : Byte) (rest : List Byte), transactionRow b = row →
        ∃ s1 s2 s3 t, exec (rowInstr row l .select) s = .next s1 ∧ exec (rowInstr row l (.first b)) s1 = .next s2
          ∧ exec (rowInstr row l (.more rest)) s2 = .next s3 ∧ exec (rowInstr row l .rise) s3 = .next t
          ∧ exec (rowInstr row l (.whole b rest)) s = .next t)
    ∧ (∀ st, s.resetHeld = false → (s.link l).transaction = some (.selected st) →
        (∀ b : Byte, 1 ≤ b.toNat → b.toNat ≤ 0x3F →
          ((s.link l).slot = .idle →
            ∃ t, exec (.commandFrame l (.first b)) s = .next t
              ∧ t.link l = { s.link l with slot := .filling [b], transaction := some .frame, out := [st] }
              ∧ s.OnlyLink t l ∧ s.EverythingElseKept t)
          ∧ ((∃ f, (s.link l).slot = .queued f) ∨ (∃ r, (s.link l).slot = .done r) →
            ∃ t, exec (.commandFrame l (.first b)) s = .next t
              ∧ t.link l = { s.link l with transaction := some .refusedFrame, out := [st] }
              ∧ s.OnlyLink t l ∧ s.EverythingElseKept t))
        ∧ (∃ t live, exec (.fetch l (.first 0x80)) s = .next t ∧ (live = true ↔ ∃ r, (s.link l).slot = .done r)
          ∧ t.link l = { s.link l with transaction := some (.fetch live), out := [st] }
          ∧ s.OnlyLink t l ∧ s.EverythingElseKept t)
        ∧ (∃ t, exec (.clearLink l (.first 0xC0)) s = .next t
          ∧ t.link l = { s.link l with transaction := some (.clear none), out := [st] }
          ∧ s.OnlyLink t l ∧ s.EverythingElseKept t)
        ∧ ∀ b : Byte, b = 0 ∨ (0x40 ≤ b.toNat ∧ b ≠ 0x80 ∧ b ≠ 0xC0) →
          ∃ t, exec (.ignoredTransaction l (.first b)) s = .next t
            ∧ t.link l = { s.link l with transaction := some (.ignored none), out := [st] }
            ∧ s.OnlyLink t l ∧ s.EverythingElseKept t)
    ∧ (∀ st b, s.resetHeld = false → (s.link l).transaction = some (.ignored (some st)) →
        ∃ t, exec (.ignoredTransaction l (.first b)) s = .next t
          ∧ t.link l = { s.link l with transaction := some (.ignored none), out := (s.link l).out ++ [st] }
          ∧ s.OnlyLink t l ∧ s.EverythingElseKept t)
    ∧ (∀ received, (s.link l).slot = .filling received → (s.link l).transaction = some .frame →
        (∀ bs, ∃ t, exec (.commandFrame l (.more bs)) s = .next t
          ∧ t.link l = { s.link l with slot := .filling (received ++ bs),
                                       out := (s.link l).out ++ List.replicate bs.length 0 }
          ∧ s.OnlyLink t l ∧ s.EverythingElseKept t)
        ∧ (∀ code len ps chk, received = code :: len :: (ps ++ [chk]) → len.toNat = ps.length → ps.length ≤ 48 →
          byteSum received = 0 →
          ∃ t, exec (.commandFrame l .rise) s = .next t
            ∧ t.link l = { s.link l with slot := .queued { code := code, params := ps }, refused := false,
                                         transaction := none }
            ∧ s.OnlyLink t l ∧ s.EverythingElseKept t)
        ∧ ∀ code rest detail, received = code :: rest → FrameFault code rest detail →
          ∃ t, exec (.commandFrame l .rise) s = .next t
            ∧ (t.link l).slot = .done { status := .frameFault, detail := detail, data := [] }
            ∧ (t.link l).refused = (s.link l).refused ∧ (t.link l).transaction = none
            ∧ (t.link l).out = (s.link l).out ∧ s.OnlyLink t l ∧ s.EverythingElseKept t)
    ∧ (∀ r, (s.link l).slot = .done r → (s.link l).transaction = some (.fetch true) → (s.link l).out ≠ [] →
        r.data.length ≤ 64 →
        (∀ body chk bs, body = [r.status.code, r.detail, byte r.data.length] ++ r.data ++ [chk] → byteSum body = 0 →
          ∃ t, exec (.fetch l (.more bs)) s = .next t
            ∧ t.link l = { s.link l with
                out := (s.link l).out ++ (body.drop ((s.link l).out.length - 1)
                  ++ List.replicate bs.length 0).take bs.length }
            ∧ s.OnlyLink t l ∧ s.EverythingElseKept t)
        ∧ ∃ t, exec (.fetch l .rise) s = .next t
          ∧ (t.link l).slot = (if r.data.length + 4 < (s.link l).out.length then .idle else .done r)
          ∧ (t.link l).refused = (s.link l).refused ∧ (t.link l).transaction = none
          ∧ (t.link l).out = (s.link l).out ∧ s.OnlyLink t l ∧ s.EverythingElseKept t)
    ∧ (∀ rest, (s.link l).transaction = some (.fetch false) →
        (∃ t, exec (.fetch l (.more rest)) s = .next t
          ∧ t.link l = { s.link l with out := (s.link l).out ++ List.replicate rest.length 0 }
          ∧ s.OnlyLink t l ∧ s.EverythingElseKept t)
        ∧ ∃ t, exec (.fetch l .rise) s = .next t ∧ t.link l = { s.link l with transaction := none }
          ∧ s.OnlyLink t l ∧ s.EverythingElseKept t)
    ∧ ((s.link l).transaction = some .refusedFrame →
        ∃ t, exec (.commandFrame l .rise) s = .next t
          ∧ t.link l = { s.link l with transaction := none, refused := true }
          ∧ s.OnlyLink t l ∧ s.EverythingElseKept t)
    ∧ ((∃ due, (s.link l).transaction = some (.ignored due)) ∨ (∃ b, (s.link l).transaction = some (.selected b)) →
        ∀ row : TransactionRow,
        ∃ t, exec (rowInstr row l .rise) s = .next t ∧ t.link l = { s.link l with transaction := none }
          ∧ s.OnlyLink t l ∧ s.EverythingElseKept t)

/-! ## Rules that every step keeps -/

/-- Every rule below holds at reset; that RSTn is low only while a reset is held is the model's choice (log 4). -/
def Obligations.RulesHoldAtReset : Prop :=
  State.reset.CountsAgree ∧ State.reset.LeasesShaped ∧ State.reset.HoldersAgree ∧ State.reset.TimebasesInRange
    ∧ State.reset.DutiesFit ∧ State.reset.LatchesHeld ∧ State.reset.OneSupervisor ∧ State.reset.HoldingsAgree
    ∧ State.reset.TablesAgree ∧ State.reset.SafePairsFit ∧ State.reset.GatesFit ∧ State.reset.Settled
    ∧ State.reset.ShowsByRules ∧ State.reset.ResetLineHeld

/-- Every step keeps the reference counts and the in-use counts equal to the bindings that name them (R48, R100). -/
def Obligations.StepsKeepTheCounts : Prop :=
  ∀ s t : State, s.CountsAgree → step s = .next t → t.CountsAgree

/-- Every step keeps the lease records in the shape of R2 to R6, and the safe levels and gates of every binding as the
claim and AMEND checks leave them (R7, R30, R72). -/
def Obligations.StepsKeepTheLeaseShapes : Prop :=
  ∀ s t : State, s.LeasesShaped → s.SafePairsFit → s.GatesFit → step s = .next t →
    t.LeasesShaped ∧ t.SafePairsFit ∧ t.GatesFit

/-- Every step keeps each timebase IDLE exactly when its reference count is zero, and else held by a lease bound to it
(R48, R64, R65). -/
def Obligations.StepsKeepThePeriodHolders : Prop :=
  ∀ s t : State, s.CountsAgree → s.LeasesShaped → s.HoldersAgree → step s = .next t → t.HoldersAgree

/-- Every step keeps the timebases in their ranges and every duty within the periods that govern it (R46, R53,
R88). -/
def Obligations.StepsKeepTheDuties : Prop :=
  ∀ s t : State, s.CountsAgree → s.LeasesShaped → s.HoldersAgree → s.TimebasesInRange → s.DutiesFit →
    step s = .next t → t.TimebasesInRange ∧ t.DutiesFit

/-- Every step keeps the relation of latches and causes: while a latch is set every lease it reaches holds its source
as a cause (R112). -/
def Obligations.StepsKeepTheLatchesHeld : Prop :=
  ∀ s t : State, s.LatchesHeld → step s = .next t → t.LatchesHeld

/-- Every step keeps the rules of sessions: one supervisor, opened on Link B; every lease held by a session, and no
OPEN session above its quota (R125, R127). -/
def Obligations.StepsKeepTheSessionRules : Prop :=
  ∀ s t : State, s.OneSupervisor → s.HoldingsAgree → step s = .next t → t.OneSupervisor ∧ t.HoldingsAgree

/-- Every step keeps the channel map, the engines and the pin table in agreement with the lease records (R7, R8, R86,
R88, R94). -/
def Obligations.StepsKeepTheTables : Prop :=
  ∀ s t : State, s.CountsAgree → s.LeasesShaped → s.HoldersAgree → s.TablesAgree → step s = .next t →
    t.TablesAgree

/-- What the outputs show, by the rules in their own terms (`ShowsByRules`): an unowned pin its rest level, the pins of
an ARMED or TRIPPED lease their safe levels, those of a RUNNING, AMEND_PENDING or DRAINING one the active or inactive
level of R90 as the windows of R89 and R92 and the carrier under R91 give, and a link's attention line R151's
condition (R86, R95). Every step keeps this; in a state whose tables agree it is what `Settled` says, which every step
keeps too; a pin is driven as R90 and R95 give from its level, and the link lines as R172 gives. That every step keeps
RSTn low only while a reset is held (`ResetLineHeld`) is the model's choice (log 4): R172 has RSTn low for less than
1 us with no reset taken, and the model holds no level while such a pulse lasts. -/
def Obligations.OutputsShowWhatTheRulesGive : Prop :=
  (∀ s t : State, s.CountsAgree → s.LeasesShaped → s.HoldersAgree → s.TablesAgree → s.SafePairsFit → s.GatesFit →
    s.ShowsByRules → step s = .next t → t.ShowsByRules)
  ∧ (∀ s : State, s.Settled → s.TablesAgree → s.GatesFit → s.ShowsByRules)
  ∧ (∀ s t : State, s.Settled → step s = .next t → t.Settled)
  ∧ (∀ s t : State, s.ResetLineHeld → step s = .next t → t.ResetLineHeld)
  ∧ (∀ (s : State) (p : PinNo),
      (s.resetHeld = true → s.pinDrive p = .released)
      ∧ (s.resetHeld = false →
        (s.pins[p].level = .low → s.pinDrive p = .low) ∧ (s.pins[p].level = .float → s.pinDrive p = .released)
        ∧ (s.pins[p].level = .high → s.pinDrive p
            = if s.pins[p].owner.any (fun o => o.drive == .openDrain) then .released else .high)))
  ∧ ∀ (s : State) (l : Link),
      (s.dataOutDriven l = true ↔ s.resetHeld = false ∧ (s.link l).transaction ≠ none)
      ∧ s.attentionDrive l = (if s.resetHeld = false ∧ (s.link l).attention = true then .low else .released)

/-- The two pins of a complementary binding never show its active level at the same time (R92). -/
def Obligations.ComplementPinsAreNeverBothActive : Prop :=
  ∀ s : State, s.Settled → s.TablesAgree → s.SafePairsFit → s.GatesFit → s.NeverBothActive
end

