-- ==== Sys2Proof/Laws/State.lean ====
section
/-! SUPPORT. One lemma for each field that an update of the state leaves as it was, so that no later proof
unfolds a record update; and the fields it sets, where they are read back directly. -/

namespace Sys2Proof.Machine

variable (s : State)

/-! ## `setLink` -/

@[simp] theorem State.setLink_leases (l : Link) (p : LinkPort) :
    (s.setLink l p).leases = s.leases := by cases l <;> rfl

@[simp] theorem State.setLink_channels (l : Link) (p : LinkPort) :
    (s.setLink l p).channels = s.channels := by cases l <;> rfl

@[simp] theorem State.setLink_timebases (l : Link) (p : LinkPort) :
    (s.setLink l p).timebases = s.timebases := by cases l <;> rfl

@[simp] theorem State.setLink_engines (l : Link) (p : LinkPort) :
    (s.setLink l p).engines = s.engines := by cases l <;> rfl

@[simp] theorem State.setLink_pins (l : Link) (p : LinkPort) :
    (s.setLink l p).pins = s.pins := by cases l <;> rfl

@[simp] theorem State.setLink_carrierA (l : Link) (p : LinkPort) :
    (s.setLink l p).carrierA = s.carrierA := by cases l <;> rfl

@[simp] theorem State.setLink_carrierB (l : Link) (p : LinkPort) :
    (s.setLink l p).carrierB = s.carrierB := by cases l <;> rfl

@[simp] theorem State.setLink_trip (l : Link) (p : LinkPort) :
    (s.setLink l p).trip = s.trip := by cases l <;> rfl

@[simp] theorem State.setLink_supplyMv (l : Link) (p : LinkPort) :
    (s.setLink l p).supplyMv = s.supplyMv := by cases l <;> rfl

@[simp] theorem State.setLink_sessions (l : Link) (p : LinkPort) :
    (s.setLink l p).sessions = s.sessions := by cases l <;> rfl

@[simp] theorem State.setLink_lastServed (l : Link) (p : LinkPort) :
    (s.setLink l p).lastServed = s.lastServed := by cases l <;> rfl

@[simp] theorem State.setLink_rstn (l : Link) (p : LinkPort) :
    (s.setLink l p).rstn = s.rstn := by cases l <;> rfl

@[simp] theorem State.setLink_resetHeld (l : Link) (p : LinkPort) :
    (s.setLink l p).resetHeld = s.resetHeld := by cases l <;> rfl

@[simp] theorem State.setLink_freeCount (l : Link) (p : LinkPort) :
    (s.setLink l p).freeCount = s.freeCount := by cases l <;> rfl

@[simp] theorem State.setLink_pending (l : Link) (p : LinkPort) :
    (s.setLink l p).pending = s.pending := by cases l <;> rfl

/-! ## `setCarrierUnit` -/

@[simp] theorem State.setCarrierUnit_leases (c : Carrier) (u : CarrierUnit) :
    (s.setCarrierUnit c u).leases = s.leases := by cases c <;> rfl

@[simp] theorem State.setCarrierUnit_channels (c : Carrier) (u : CarrierUnit) :
    (s.setCarrierUnit c u).channels = s.channels := by cases c <;> rfl

@[simp] theorem State.setCarrierUnit_timebases (c : Carrier) (u : CarrierUnit) :
    (s.setCarrierUnit c u).timebases = s.timebases := by cases c <;> rfl

@[simp] theorem State.setCarrierUnit_engines (c : Carrier) (u : CarrierUnit) :
    (s.setCarrierUnit c u).engines = s.engines := by cases c <;> rfl

@[simp] theorem State.setCarrierUnit_pins (c : Carrier) (u : CarrierUnit) :
    (s.setCarrierUnit c u).pins = s.pins := by cases c <;> rfl

@[simp] theorem State.setCarrierUnit_trip (c : Carrier) (u : CarrierUnit) :
    (s.setCarrierUnit c u).trip = s.trip := by cases c <;> rfl

@[simp] theorem State.setCarrierUnit_supplyMv (c : Carrier) (u : CarrierUnit) :
    (s.setCarrierUnit c u).supplyMv = s.supplyMv := by cases c <;> rfl

@[simp] theorem State.setCarrierUnit_sessions (c : Carrier) (u : CarrierUnit) :
    (s.setCarrierUnit c u).sessions = s.sessions := by cases c <;> rfl

@[simp] theorem State.setCarrierUnit_linkA (c : Carrier) (u : CarrierUnit) :
    (s.setCarrierUnit c u).linkA = s.linkA := by cases c <;> rfl

@[simp] theorem State.setCarrierUnit_linkB (c : Carrier) (u : CarrierUnit) :
    (s.setCarrierUnit c u).linkB = s.linkB := by cases c <;> rfl

@[simp] theorem State.setCarrierUnit_lastServed (c : Carrier) (u : CarrierUnit) :
    (s.setCarrierUnit c u).lastServed = s.lastServed := by cases c <;> rfl

@[simp] theorem State.setCarrierUnit_rstn (c : Carrier) (u : CarrierUnit) :
    (s.setCarrierUnit c u).rstn = s.rstn := by cases c <;> rfl

@[simp] theorem State.setCarrierUnit_resetHeld (c : Carrier) (u : CarrierUnit) :
    (s.setCarrierUnit c u).resetHeld = s.resetHeld := by cases c <;> rfl

@[simp] theorem State.setCarrierUnit_freeCount (c : Carrier) (u : CarrierUnit) :
    (s.setCarrierUnit c u).freeCount = s.freeCount := by cases c <;> rfl

@[simp] theorem State.setCarrierUnit_pending (c : Carrier) (u : CarrierUnit) :
    (s.setCarrierUnit c u).pending = s.pending := by cases c <;> rfl

/-! ## `setInput` -/

@[simp] theorem State.setInput_leases (i : FaultLine) (x : FaultInput) :
    (s.setInput i x).leases = s.leases := by cases i <;> rfl

@[simp] theorem State.setInput_channels (i : FaultLine) (x : FaultInput) :
    (s.setInput i x).channels = s.channels := by cases i <;> rfl

@[simp] theorem State.setInput_timebases (i : FaultLine) (x : FaultInput) :
    (s.setInput i x).timebases = s.timebases := by cases i <;> rfl

@[simp] theorem State.setInput_engines (i : FaultLine) (x : FaultInput) :
    (s.setInput i x).engines = s.engines := by cases i <;> rfl

@[simp] theorem State.setInput_pins (i : FaultLine) (x : FaultInput) :
    (s.setInput i x).pins = s.pins := by cases i <;> rfl

@[simp] theorem State.setInput_carrierA (i : FaultLine) (x : FaultInput) :
    (s.setInput i x).carrierA = s.carrierA := by cases i <;> rfl

@[simp] theorem State.setInput_carrierB (i : FaultLine) (x : FaultInput) :
    (s.setInput i x).carrierB = s.carrierB := by cases i <;> rfl

@[simp] theorem State.setInput_supplyMv (i : FaultLine) (x : FaultInput) :
    (s.setInput i x).supplyMv = s.supplyMv := by cases i <;> rfl

@[simp] theorem State.setInput_sessions (i : FaultLine) (x : FaultInput) :
    (s.setInput i x).sessions = s.sessions := by cases i <;> rfl

@[simp] theorem State.setInput_linkA (i : FaultLine) (x : FaultInput) :
    (s.setInput i x).linkA = s.linkA := by cases i <;> rfl

@[simp] theorem State.setInput_linkB (i : FaultLine) (x : FaultInput) :
    (s.setInput i x).linkB = s.linkB := by cases i <;> rfl

@[simp] theorem State.setInput_lastServed (i : FaultLine) (x : FaultInput) :
    (s.setInput i x).lastServed = s.lastServed := by cases i <;> rfl

@[simp] theorem State.setInput_rstn (i : FaultLine) (x : FaultInput) :
    (s.setInput i x).rstn = s.rstn := by cases i <;> rfl

@[simp] theorem State.setInput_resetHeld (i : FaultLine) (x : FaultInput) :
    (s.setInput i x).resetHeld = s.resetHeld := by cases i <;> rfl

@[simp] theorem State.setInput_freeCount (i : FaultLine) (x : FaultInput) :
    (s.setInput i x).freeCount = s.freeCount := by cases i <;> rfl

@[simp] theorem State.setInput_pending (i : FaultLine) (x : FaultInput) :
    (s.setInput i x).pending = s.pending := by cases i <;> rfl

/-! ## `setSession` -/

@[simp] theorem State.setSession_leases (n : SessionNo) (r : Session) :
    (s.setSession n r).leases = s.leases := rfl

@[simp] theorem State.setSession_channels (n : SessionNo) (r : Session) :
    (s.setSession n r).channels = s.channels := rfl

@[simp] theorem State.setSession_timebases (n : SessionNo) (r : Session) :
    (s.setSession n r).timebases = s.timebases := rfl

@[simp] theorem State.setSession_engines (n : SessionNo) (r : Session) :
    (s.setSession n r).engines = s.engines := rfl

@[simp] theorem State.setSession_pins (n : SessionNo) (r : Session) :
    (s.setSession n r).pins = s.pins := rfl

@[simp] theorem State.setSession_carrierA (n : SessionNo) (r : Session) :
    (s.setSession n r).carrierA = s.carrierA := rfl

@[simp] theorem State.setSession_carrierB (n : SessionNo) (r : Session) :
    (s.setSession n r).carrierB = s.carrierB := rfl

@[simp] theorem State.setSession_trip (n : SessionNo) (r : Session) :
    (s.setSession n r).trip = s.trip := rfl

@[simp] theorem State.setSession_supplyMv (n : SessionNo) (r : Session) :
    (s.setSession n r).supplyMv = s.supplyMv := rfl

@[simp] theorem State.setSession_linkA (n : SessionNo) (r : Session) :
    (s.setSession n r).linkA = s.linkA := rfl

@[simp] theorem State.setSession_linkB (n : SessionNo) (r : Session) :
    (s.setSession n r).linkB = s.linkB := rfl

@[simp] theorem State.setSession_lastServed (n : SessionNo) (r : Session) :
    (s.setSession n r).lastServed = s.lastServed := rfl

@[simp] theorem State.setSession_rstn (n : SessionNo) (r : Session) :
    (s.setSession n r).rstn = s.rstn := rfl

@[simp] theorem State.setSession_resetHeld (n : SessionNo) (r : Session) :
    (s.setSession n r).resetHeld = s.resetHeld := rfl

@[simp] theorem State.setSession_freeCount (n : SessionNo) (r : Session) :
    (s.setSession n r).freeCount = s.freeCount := rfl

@[simp] theorem State.setSession_pending (n : SessionNo) (r : Session) :
    (s.setSession n r).pending = s.pending := rfl

/-! ## `setTimebase` -/

@[simp] theorem State.setTimebase_leases (tb : TimebaseNo) (t : Timebase) :
    (s.setTimebase tb t).leases = s.leases := rfl

@[simp] theorem State.setTimebase_channels (tb : TimebaseNo) (t : Timebase) :
    (s.setTimebase tb t).channels = s.channels := rfl

@[simp] theorem State.setTimebase_engines (tb : TimebaseNo) (t : Timebase) :
    (s.setTimebase tb t).engines = s.engines := rfl

@[simp] theorem State.setTimebase_pins (tb : TimebaseNo) (t : Timebase) :
    (s.setTimebase tb t).pins = s.pins := rfl

@[simp] theorem State.setTimebase_carrierA (tb : TimebaseNo) (t : Timebase) :
    (s.setTimebase tb t).carrierA = s.carrierA := rfl

@[simp] theorem State.setTimebase_carrierB (tb : TimebaseNo) (t : Timebase) :
    (s.setTimebase tb t).carrierB = s.carrierB := rfl

@[simp] theorem State.setTimebase_trip (tb : TimebaseNo) (t : Timebase) :
    (s.setTimebase tb t).trip = s.trip := rfl

@[simp] theorem State.setTimebase_supplyMv (tb : TimebaseNo) (t : Timebase) :
    (s.setTimebase tb t).supplyMv = s.supplyMv := rfl

@[simp] theorem State.setTimebase_sessions (tb : TimebaseNo) (t : Timebase) :
    (s.setTimebase tb t).sessions = s.sessions := rfl

@[simp] theorem State.setTimebase_linkA (tb : TimebaseNo) (t : Timebase) :
    (s.setTimebase tb t).linkA = s.linkA := rfl

@[simp] theorem State.setTimebase_linkB (tb : TimebaseNo) (t : Timebase) :
    (s.setTimebase tb t).linkB = s.linkB := rfl

@[simp] theorem State.setTimebase_lastServed (tb : TimebaseNo) (t : Timebase) :
    (s.setTimebase tb t).lastServed = s.lastServed := rfl

@[simp] theorem State.setTimebase_rstn (tb : TimebaseNo) (t : Timebase) :
    (s.setTimebase tb t).rstn = s.rstn := rfl

@[simp] theorem State.setTimebase_resetHeld (tb : TimebaseNo) (t : Timebase) :
    (s.setTimebase tb t).resetHeld = s.resetHeld := rfl

@[simp] theorem State.setTimebase_freeCount (tb : TimebaseNo) (t : Timebase) :
    (s.setTimebase tb t).freeCount = s.freeCount := rfl

@[simp] theorem State.setTimebase_pending (tb : TimebaseNo) (t : Timebase) :
    (s.setTimebase tb t).pending = s.pending := rfl

/-! ## `setLeases` -/

@[simp] theorem State.setLeases_channels (ls : Vector Lease 16) :
    (s.setLeases ls).channels = s.channels := by simp only [State.setLeases]

@[simp] theorem State.setLeases_engines (ls : Vector Lease 16) :
    (s.setLeases ls).engines = s.engines := by simp only [State.setLeases]

@[simp] theorem State.setLeases_pins (ls : Vector Lease 16) :
    (s.setLeases ls).pins = s.pins := by simp only [State.setLeases]

@[simp] theorem State.setLeases_trip (ls : Vector Lease 16) :
    (s.setLeases ls).trip = s.trip := by simp only [State.setLeases]

@[simp] theorem State.setLeases_supplyMv (ls : Vector Lease 16) :
    (s.setLeases ls).supplyMv = s.supplyMv := by simp only [State.setLeases]

@[simp] theorem State.setLeases_sessions (ls : Vector Lease 16) :
    (s.setLeases ls).sessions = s.sessions := by simp only [State.setLeases]

@[simp] theorem State.setLeases_linkA (ls : Vector Lease 16) :
    (s.setLeases ls).linkA = s.linkA := by simp only [State.setLeases]

@[simp] theorem State.setLeases_linkB (ls : Vector Lease 16) :
    (s.setLeases ls).linkB = s.linkB := by simp only [State.setLeases]

@[simp] theorem State.setLeases_lastServed (ls : Vector Lease 16) :
    (s.setLeases ls).lastServed = s.lastServed := by simp only [State.setLeases]

@[simp] theorem State.setLeases_rstn (ls : Vector Lease 16) :
    (s.setLeases ls).rstn = s.rstn := by simp only [State.setLeases]

@[simp] theorem State.setLeases_resetHeld (ls : Vector Lease 16) :
    (s.setLeases ls).resetHeld = s.resetHeld := by simp only [State.setLeases]

@[simp] theorem State.setLeases_freeCount (ls : Vector Lease 16) :
    (s.setLeases ls).freeCount = s.freeCount := by simp only [State.setLeases]

@[simp] theorem State.setLeases_pending (ls : Vector Lease 16) :
    (s.setLeases ls).pending = s.pending := by simp only [State.setLeases]

/-! ## `putLease` -/

@[simp] theorem State.putLease_channels (k : LeaseNo) (x : Lease) :
    (s.putLease k x).channels = s.channels := by simp only [State.putLease, State.setLeases]

@[simp] theorem State.putLease_engines (k : LeaseNo) (x : Lease) :
    (s.putLease k x).engines = s.engines := by simp only [State.putLease, State.setLeases]

@[simp] theorem State.putLease_pins (k : LeaseNo) (x : Lease) :
    (s.putLease k x).pins = s.pins := by simp only [State.putLease, State.setLeases]

@[simp] theorem State.putLease_trip (k : LeaseNo) (x : Lease) :
    (s.putLease k x).trip = s.trip := by simp only [State.putLease, State.setLeases]

@[simp] theorem State.putLease_supplyMv (k : LeaseNo) (x : Lease) :
    (s.putLease k x).supplyMv = s.supplyMv := by simp only [State.putLease, State.setLeases]

@[simp] theorem State.putLease_sessions (k : LeaseNo) (x : Lease) :
    (s.putLease k x).sessions = s.sessions := by simp only [State.putLease, State.setLeases]

@[simp] theorem State.putLease_linkA (k : LeaseNo) (x : Lease) :
    (s.putLease k x).linkA = s.linkA := by simp only [State.putLease, State.setLeases]

@[simp] theorem State.putLease_linkB (k : LeaseNo) (x : Lease) :
    (s.putLease k x).linkB = s.linkB := by simp only [State.putLease, State.setLeases]

@[simp] theorem State.putLease_lastServed (k : LeaseNo) (x : Lease) :
    (s.putLease k x).lastServed = s.lastServed := by simp only [State.putLease, State.setLeases]

@[simp] theorem State.putLease_rstn (k : LeaseNo) (x : Lease) :
    (s.putLease k x).rstn = s.rstn := by simp only [State.putLease, State.setLeases]

@[simp] theorem State.putLease_resetHeld (k : LeaseNo) (x : Lease) :
    (s.putLease k x).resetHeld = s.resetHeld := by simp only [State.putLease, State.setLeases]

@[simp] theorem State.putLease_freeCount (k : LeaseNo) (x : Lease) :
    (s.putLease k x).freeCount = s.freeCount := by simp only [State.putLease, State.setLeases]

@[simp] theorem State.putLease_pending (k : LeaseNo) (x : Lease) :
    (s.putLease k x).pending = s.pending := by simp only [State.putLease, State.setLeases]

/-! ## `mapEngines` -/

@[simp] theorem State.mapEngines_leases (f : LeaseNo → Engine → Engine) :
    (s.mapEngines f).leases = s.leases := rfl

@[simp] theorem State.mapEngines_channels (f : LeaseNo → Engine → Engine) :
    (s.mapEngines f).channels = s.channels := rfl

@[simp] theorem State.mapEngines_timebases (f : LeaseNo → Engine → Engine) :
    (s.mapEngines f).timebases = s.timebases := rfl

@[simp] theorem State.mapEngines_pins (f : LeaseNo → Engine → Engine) :
    (s.mapEngines f).pins = s.pins := rfl

@[simp] theorem State.mapEngines_carrierA (f : LeaseNo → Engine → Engine) :
    (s.mapEngines f).carrierA = s.carrierA := rfl

@[simp] theorem State.mapEngines_carrierB (f : LeaseNo → Engine → Engine) :
    (s.mapEngines f).carrierB = s.carrierB := rfl

@[simp] theorem State.mapEngines_trip (f : LeaseNo → Engine → Engine) :
    (s.mapEngines f).trip = s.trip := rfl

@[simp] theorem State.mapEngines_supplyMv (f : LeaseNo → Engine → Engine) :
    (s.mapEngines f).supplyMv = s.supplyMv := rfl

@[simp] theorem State.mapEngines_sessions (f : LeaseNo → Engine → Engine) :
    (s.mapEngines f).sessions = s.sessions := rfl

@[simp] theorem State.mapEngines_linkA (f : LeaseNo → Engine → Engine) :
    (s.mapEngines f).linkA = s.linkA := rfl

@[simp] theorem State.mapEngines_linkB (f : LeaseNo → Engine → Engine) :
    (s.mapEngines f).linkB = s.linkB := rfl

@[simp] theorem State.mapEngines_lastServed (f : LeaseNo → Engine → Engine) :
    (s.mapEngines f).lastServed = s.lastServed := rfl

@[simp] theorem State.mapEngines_rstn (f : LeaseNo → Engine → Engine) :
    (s.mapEngines f).rstn = s.rstn := rfl

@[simp] theorem State.mapEngines_resetHeld (f : LeaseNo → Engine → Engine) :
    (s.mapEngines f).resetHeld = s.resetHeld := rfl

@[simp] theorem State.mapEngines_freeCount (f : LeaseNo → Engine → Engine) :
    (s.mapEngines f).freeCount = s.freeCount := rfl

@[simp] theorem State.mapEngines_pending (f : LeaseNo → Engine → Engine) :
    (s.mapEngines f).pending = s.pending := rfl

/-! ## `recordNotices` -/

@[simp] theorem State.recordNotices_leases (f : LeaseNo → KindSet) :
    (s.recordNotices f).leases = s.leases := rfl

@[simp] theorem State.recordNotices_channels (f : LeaseNo → KindSet) :
    (s.recordNotices f).channels = s.channels := rfl

@[simp] theorem State.recordNotices_timebases (f : LeaseNo → KindSet) :
    (s.recordNotices f).timebases = s.timebases := rfl

@[simp] theorem State.recordNotices_engines (f : LeaseNo → KindSet) :
    (s.recordNotices f).engines = s.engines := rfl

@[simp] theorem State.recordNotices_pins (f : LeaseNo → KindSet) :
    (s.recordNotices f).pins = s.pins := rfl

@[simp] theorem State.recordNotices_carrierA (f : LeaseNo → KindSet) :
    (s.recordNotices f).carrierA = s.carrierA := rfl

@[simp] theorem State.recordNotices_carrierB (f : LeaseNo → KindSet) :
    (s.recordNotices f).carrierB = s.carrierB := rfl

@[simp] theorem State.recordNotices_trip (f : LeaseNo → KindSet) :
    (s.recordNotices f).trip = s.trip := rfl

@[simp] theorem State.recordNotices_supplyMv (f : LeaseNo → KindSet) :
    (s.recordNotices f).supplyMv = s.supplyMv := rfl

@[simp] theorem State.recordNotices_linkA (f : LeaseNo → KindSet) :
    (s.recordNotices f).linkA = s.linkA := rfl

@[simp] theorem State.recordNotices_linkB (f : LeaseNo → KindSet) :
    (s.recordNotices f).linkB = s.linkB := rfl

@[simp] theorem State.recordNotices_lastServed (f : LeaseNo → KindSet) :
    (s.recordNotices f).lastServed = s.lastServed := rfl

@[simp] theorem State.recordNotices_rstn (f : LeaseNo → KindSet) :
    (s.recordNotices f).rstn = s.rstn := rfl

@[simp] theorem State.recordNotices_resetHeld (f : LeaseNo → KindSet) :
    (s.recordNotices f).resetHeld = s.resetHeld := rfl

@[simp] theorem State.recordNotices_freeCount (f : LeaseNo → KindSet) :
    (s.recordNotices f).freeCount = s.freeCount := rfl

@[simp] theorem State.recordNotices_pending (f : LeaseNo → KindSet) :
    (s.recordNotices f).pending = s.pending := rfl

/-! ## `recordFor` -/

@[simp] theorem State.recordFor_leases (n : SessionNo) (k : LeaseNo) (x : KindSet) :
    (s.recordFor n k x).leases = s.leases := rfl

@[simp] theorem State.recordFor_channels (n : SessionNo) (k : LeaseNo) (x : KindSet) :
    (s.recordFor n k x).channels = s.channels := rfl

@[simp] theorem State.recordFor_timebases (n : SessionNo) (k : LeaseNo) (x : KindSet) :
    (s.recordFor n k x).timebases = s.timebases := rfl

@[simp] theorem State.recordFor_engines (n : SessionNo) (k : LeaseNo) (x : KindSet) :
    (s.recordFor n k x).engines = s.engines := rfl

@[simp] theorem State.recordFor_pins (n : SessionNo) (k : LeaseNo) (x : KindSet) :
    (s.recordFor n k x).pins = s.pins := rfl

@[simp] theorem State.recordFor_carrierA (n : SessionNo) (k : LeaseNo) (x : KindSet) :
    (s.recordFor n k x).carrierA = s.carrierA := rfl

@[simp] theorem State.recordFor_carrierB (n : SessionNo) (k : LeaseNo) (x : KindSet) :
    (s.recordFor n k x).carrierB = s.carrierB := rfl

@[simp] theorem State.recordFor_trip (n : SessionNo) (k : LeaseNo) (x : KindSet) :
    (s.recordFor n k x).trip = s.trip := rfl

@[simp] theorem State.recordFor_supplyMv (n : SessionNo) (k : LeaseNo) (x : KindSet) :
    (s.recordFor n k x).supplyMv = s.supplyMv := rfl

@[simp] theorem State.recordFor_linkA (n : SessionNo) (k : LeaseNo) (x : KindSet) :
    (s.recordFor n k x).linkA = s.linkA := rfl

@[simp] theorem State.recordFor_linkB (n : SessionNo) (k : LeaseNo) (x : KindSet) :
    (s.recordFor n k x).linkB = s.linkB := rfl

@[simp] theorem State.recordFor_lastServed (n : SessionNo) (k : LeaseNo) (x : KindSet) :
    (s.recordFor n k x).lastServed = s.lastServed := rfl

@[simp] theorem State.recordFor_rstn (n : SessionNo) (k : LeaseNo) (x : KindSet) :
    (s.recordFor n k x).rstn = s.rstn := rfl

@[simp] theorem State.recordFor_resetHeld (n : SessionNo) (k : LeaseNo) (x : KindSet) :
    (s.recordFor n k x).resetHeld = s.resetHeld := rfl

@[simp] theorem State.recordFor_freeCount (n : SessionNo) (k : LeaseNo) (x : KindSet) :
    (s.recordFor n k x).freeCount = s.freeCount := rfl

@[simp] theorem State.recordFor_pending (n : SessionNo) (k : LeaseNo) (x : KindSet) :
    (s.recordFor n k x).pending = s.pending := rfl

/-! ## `freeLeases` -/

@[simp] theorem State.freeLeases_trip (w : LeaseNo → Bool) :
    (s.freeLeases w).trip = s.trip := by simp [State.freeLeases]

@[simp] theorem State.freeLeases_supplyMv (w : LeaseNo → Bool) :
    (s.freeLeases w).supplyMv = s.supplyMv := by simp [State.freeLeases]

@[simp] theorem State.freeLeases_sessions (w : LeaseNo → Bool) :
    (s.freeLeases w).sessions = s.sessions := by simp [State.freeLeases]

@[simp] theorem State.freeLeases_linkA (w : LeaseNo → Bool) :
    (s.freeLeases w).linkA = s.linkA := by simp [State.freeLeases]

@[simp] theorem State.freeLeases_linkB (w : LeaseNo → Bool) :
    (s.freeLeases w).linkB = s.linkB := by simp [State.freeLeases]

@[simp] theorem State.freeLeases_lastServed (w : LeaseNo → Bool) :
    (s.freeLeases w).lastServed = s.lastServed := by simp [State.freeLeases]

@[simp] theorem State.freeLeases_rstn (w : LeaseNo → Bool) :
    (s.freeLeases w).rstn = s.rstn := by simp [State.freeLeases]

@[simp] theorem State.freeLeases_resetHeld (w : LeaseNo → Bool) :
    (s.freeLeases w).resetHeld = s.resetHeld := by simp [State.freeLeases]

@[simp] theorem State.freeLeases_freeCount (w : LeaseNo → Bool) :
    (s.freeLeases w).freeCount = s.freeCount := by simp [State.freeLeases]

@[simp] theorem State.freeLeases_pending (w : LeaseNo → Bool) :
    (s.freeLeases w).pending = s.pending := by simp [State.freeLeases]

/-! ## `teardown` -/

@[simp] theorem State.teardown_trip (k : LeaseNo) :
    (s.teardown k).trip = s.trip := by simp only [State.teardown, State.freeLeases_trip]

@[simp] theorem State.teardown_supplyMv (k : LeaseNo) :
    (s.teardown k).supplyMv = s.supplyMv := by simp only [State.teardown, State.freeLeases_supplyMv]

@[simp] theorem State.teardown_sessions (k : LeaseNo) :
    (s.teardown k).sessions = s.sessions := by simp only [State.teardown, State.freeLeases_sessions]

@[simp] theorem State.teardown_linkA (k : LeaseNo) :
    (s.teardown k).linkA = s.linkA := by simp only [State.teardown, State.freeLeases_linkA]

@[simp] theorem State.teardown_linkB (k : LeaseNo) :
    (s.teardown k).linkB = s.linkB := by simp only [State.teardown, State.freeLeases_linkB]

@[simp] theorem State.teardown_lastServed (k : LeaseNo) :
    (s.teardown k).lastServed = s.lastServed := by simp only [State.teardown, State.freeLeases_lastServed]

@[simp] theorem State.teardown_rstn (k : LeaseNo) :
    (s.teardown k).rstn = s.rstn := by simp only [State.teardown, State.freeLeases_rstn]

@[simp] theorem State.teardown_resetHeld (k : LeaseNo) :
    (s.teardown k).resetHeld = s.resetHeld := by simp only [State.teardown, State.freeLeases_resetHeld]

@[simp] theorem State.teardown_freeCount (k : LeaseNo) :
    (s.teardown k).freeCount = s.freeCount := by simp only [State.teardown, State.freeLeases_freeCount]

@[simp] theorem State.teardown_pending (k : LeaseNo) :
    (s.teardown k).pending = s.pending := by simp only [State.teardown, State.freeLeases_pending]

/-! ## `takeTrip` -/

@[simp] theorem State.takeTrip_channels (w : LeaseRecord → Bool) (c : Source) :
    (s.takeTrip w c).channels = s.channels := by simp [State.takeTrip]

@[simp] theorem State.takeTrip_pins (w : LeaseRecord → Bool) (c : Source) :
    (s.takeTrip w c).pins = s.pins := by simp [State.takeTrip]

@[simp] theorem State.takeTrip_trip (w : LeaseRecord → Bool) (c : Source) :
    (s.takeTrip w c).trip = s.trip := by simp [State.takeTrip]

@[simp] theorem State.takeTrip_supplyMv (w : LeaseRecord → Bool) (c : Source) :
    (s.takeTrip w c).supplyMv = s.supplyMv := by simp [State.takeTrip]

@[simp] theorem State.takeTrip_linkA (w : LeaseRecord → Bool) (c : Source) :
    (s.takeTrip w c).linkA = s.linkA := by simp [State.takeTrip]

@[simp] theorem State.takeTrip_linkB (w : LeaseRecord → Bool) (c : Source) :
    (s.takeTrip w c).linkB = s.linkB := by simp [State.takeTrip]

@[simp] theorem State.takeTrip_lastServed (w : LeaseRecord → Bool) (c : Source) :
    (s.takeTrip w c).lastServed = s.lastServed := by simp [State.takeTrip]

@[simp] theorem State.takeTrip_rstn (w : LeaseRecord → Bool) (c : Source) :
    (s.takeTrip w c).rstn = s.rstn := by simp [State.takeTrip]

@[simp] theorem State.takeTrip_resetHeld (w : LeaseRecord → Bool) (c : Source) :
    (s.takeTrip w c).resetHeld = s.resetHeld := by simp [State.takeTrip]

@[simp] theorem State.takeTrip_freeCount (w : LeaseRecord → Bool) (c : Source) :
    (s.takeTrip w c).freeCount = s.freeCount := by simp [State.takeTrip]

@[simp] theorem State.takeTrip_pending (w : LeaseRecord → Bool) (c : Source) :
    (s.takeTrip w c).pending = s.pending := by simp [State.takeTrip]

/-! ## `closeSession` -/

@[simp] theorem State.closeSession_trip (n : SessionNo) :
    (s.closeSession n).trip = s.trip := by simp [State.closeSession]

@[simp] theorem State.closeSession_supplyMv (n : SessionNo) :
    (s.closeSession n).supplyMv = s.supplyMv := by simp [State.closeSession]

@[simp] theorem State.closeSession_linkA (n : SessionNo) :
    (s.closeSession n).linkA = s.linkA := by simp [State.closeSession]

@[simp] theorem State.closeSession_linkB (n : SessionNo) :
    (s.closeSession n).linkB = s.linkB := by simp [State.closeSession]

@[simp] theorem State.closeSession_lastServed (n : SessionNo) :
    (s.closeSession n).lastServed = s.lastServed := by simp [State.closeSession]

@[simp] theorem State.closeSession_rstn (n : SessionNo) :
    (s.closeSession n).rstn = s.rstn := by simp [State.closeSession]

@[simp] theorem State.closeSession_resetHeld (n : SessionNo) :
    (s.closeSession n).resetHeld = s.resetHeld := by simp [State.closeSession]

@[simp] theorem State.closeSession_freeCount (n : SessionNo) :
    (s.closeSession n).freeCount = s.freeCount := by simp [State.closeSession]

@[simp] theorem State.closeSession_pending (n : SessionNo) :
    (s.closeSession n).pending = s.pending := by simp [State.closeSession]

/-! ## `lapseSession` -/

@[simp] theorem State.lapseSession_channels (n : SessionNo) :
    (s.lapseSession n).channels = s.channels := by unfold State.lapseSession; repeat (first | split | simp)

@[simp] theorem State.lapseSession_pins (n : SessionNo) :
    (s.lapseSession n).pins = s.pins := by unfold State.lapseSession; repeat (first | split | simp)

@[simp] theorem State.lapseSession_trip (n : SessionNo) :
    (s.lapseSession n).trip = s.trip := by unfold State.lapseSession; repeat (first | split | simp)

@[simp] theorem State.lapseSession_supplyMv (n : SessionNo) :
    (s.lapseSession n).supplyMv = s.supplyMv := by unfold State.lapseSession; repeat (first | split | simp)

@[simp] theorem State.lapseSession_linkA (n : SessionNo) :
    (s.lapseSession n).linkA = s.linkA := by unfold State.lapseSession; repeat (first | split | simp)

@[simp] theorem State.lapseSession_linkB (n : SessionNo) :
    (s.lapseSession n).linkB = s.linkB := by unfold State.lapseSession; repeat (first | split | simp)

@[simp] theorem State.lapseSession_lastServed (n : SessionNo) :
    (s.lapseSession n).lastServed = s.lastServed := by unfold State.lapseSession; repeat (first | split | simp)

@[simp] theorem State.lapseSession_rstn (n : SessionNo) :
    (s.lapseSession n).rstn = s.rstn := by unfold State.lapseSession; repeat (first | split | simp)

@[simp] theorem State.lapseSession_resetHeld (n : SessionNo) :
    (s.lapseSession n).resetHeld = s.resetHeld := by unfold State.lapseSession; repeat (first | split | simp)

@[simp] theorem State.lapseSession_freeCount (n : SessionNo) :
    (s.lapseSession n).freeCount = s.freeCount := by unfold State.lapseSession; repeat (first | split | simp)

@[simp] theorem State.lapseSession_pending (n : SessionNo) :
    (s.lapseSession n).pending = s.pending := by unfold State.lapseSession; repeat (first | split | simp)

/-! ## `setInputLatch` -/

@[simp] theorem State.setInputLatch_channels (i : FaultLine) :
    (s.setInputLatch i).channels = s.channels := by simp only [State.setInputLatch]; split <;> simp

@[simp] theorem State.setInputLatch_pins (i : FaultLine) :
    (s.setInputLatch i).pins = s.pins := by simp only [State.setInputLatch]; split <;> simp

@[simp] theorem State.setInputLatch_supplyMv (i : FaultLine) :
    (s.setInputLatch i).supplyMv = s.supplyMv := by simp only [State.setInputLatch]; split <;> simp

@[simp] theorem State.setInputLatch_linkA (i : FaultLine) :
    (s.setInputLatch i).linkA = s.linkA := by simp only [State.setInputLatch]; split <;> simp

@[simp] theorem State.setInputLatch_linkB (i : FaultLine) :
    (s.setInputLatch i).linkB = s.linkB := by simp only [State.setInputLatch]; split <;> simp

@[simp] theorem State.setInputLatch_lastServed (i : FaultLine) :
    (s.setInputLatch i).lastServed = s.lastServed := by simp only [State.setInputLatch]; split <;> simp

@[simp] theorem State.setInputLatch_rstn (i : FaultLine) :
    (s.setInputLatch i).rstn = s.rstn := by simp only [State.setInputLatch]; split <;> simp

@[simp] theorem State.setInputLatch_resetHeld (i : FaultLine) :
    (s.setInputLatch i).resetHeld = s.resetHeld := by simp only [State.setInputLatch]; split <;> simp

@[simp] theorem State.setInputLatch_freeCount (i : FaultLine) :
    (s.setInputLatch i).freeCount = s.freeCount := by simp only [State.setInputLatch]; split <;> simp

@[simp] theorem State.setInputLatch_pending (i : FaultLine) :
    (s.setInputLatch i).pending = s.pending := by simp only [State.setInputLatch]; split <;> simp

/-! ## `setSupplyLatch` -/

@[simp] theorem State.setSupplyLatch_channels :
    (s.setSupplyLatch).channels = s.channels := by unfold State.setSupplyLatch; split <;> simp

@[simp] theorem State.setSupplyLatch_pins :
    (s.setSupplyLatch).pins = s.pins := by unfold State.setSupplyLatch; split <;> simp

@[simp] theorem State.setSupplyLatch_supplyMv :
    (s.setSupplyLatch).supplyMv = s.supplyMv := by unfold State.setSupplyLatch; split <;> simp

@[simp] theorem State.setSupplyLatch_linkA :
    (s.setSupplyLatch).linkA = s.linkA := by unfold State.setSupplyLatch; split <;> simp

@[simp] theorem State.setSupplyLatch_linkB :
    (s.setSupplyLatch).linkB = s.linkB := by unfold State.setSupplyLatch; split <;> simp

@[simp] theorem State.setSupplyLatch_lastServed :
    (s.setSupplyLatch).lastServed = s.lastServed := by unfold State.setSupplyLatch; split <;> simp

@[simp] theorem State.setSupplyLatch_rstn :
    (s.setSupplyLatch).rstn = s.rstn := by unfold State.setSupplyLatch; split <;> simp

@[simp] theorem State.setSupplyLatch_resetHeld :
    (s.setSupplyLatch).resetHeld = s.resetHeld := by unfold State.setSupplyLatch; split <;> simp

@[simp] theorem State.setSupplyLatch_freeCount :
    (s.setSupplyLatch).freeCount = s.freeCount := by unfold State.setSupplyLatch; split <;> simp

@[simp] theorem State.setSupplyLatch_pending :
    (s.setSupplyLatch).pending = s.pending := by unfold State.setSupplyLatch; split <;> simp

/-! ## `renewed` -/

@[simp] theorem State.renewed_leases (n : SessionNo) :
    (s.renewed n).leases = s.leases := rfl

@[simp] theorem State.renewed_channels (n : SessionNo) :
    (s.renewed n).channels = s.channels := rfl

@[simp] theorem State.renewed_timebases (n : SessionNo) :
    (s.renewed n).timebases = s.timebases := rfl

@[simp] theorem State.renewed_engines (n : SessionNo) :
    (s.renewed n).engines = s.engines := rfl

@[simp] theorem State.renewed_pins (n : SessionNo) :
    (s.renewed n).pins = s.pins := rfl

@[simp] theorem State.renewed_carrierA (n : SessionNo) :
    (s.renewed n).carrierA = s.carrierA := rfl

@[simp] theorem State.renewed_carrierB (n : SessionNo) :
    (s.renewed n).carrierB = s.carrierB := rfl

@[simp] theorem State.renewed_trip (n : SessionNo) :
    (s.renewed n).trip = s.trip := rfl

@[simp] theorem State.renewed_supplyMv (n : SessionNo) :
    (s.renewed n).supplyMv = s.supplyMv := rfl

@[simp] theorem State.renewed_linkA (n : SessionNo) :
    (s.renewed n).linkA = s.linkA := rfl

@[simp] theorem State.renewed_linkB (n : SessionNo) :
    (s.renewed n).linkB = s.linkB := rfl

@[simp] theorem State.renewed_lastServed (n : SessionNo) :
    (s.renewed n).lastServed = s.lastServed := rfl

@[simp] theorem State.renewed_rstn (n : SessionNo) :
    (s.renewed n).rstn = s.rstn := rfl

@[simp] theorem State.renewed_resetHeld (n : SessionNo) :
    (s.renewed n).resetHeld = s.resetHeld := rfl

@[simp] theorem State.renewed_freeCount (n : SessionNo) :
    (s.renewed n).freeCount = s.freeCount := rfl

@[simp] theorem State.renewed_pending (n : SessionNo) :
    (s.renewed n).pending = s.pending := rfl

/-! ## `place` -/

@[simp] theorem State.place_leases (l : Link) (r : Response) :
    (s.place l r).leases = s.leases := by cases l <;> rfl

@[simp] theorem State.place_channels (l : Link) (r : Response) :
    (s.place l r).channels = s.channels := by cases l <;> rfl

@[simp] theorem State.place_timebases (l : Link) (r : Response) :
    (s.place l r).timebases = s.timebases := by cases l <;> rfl

@[simp] theorem State.place_engines (l : Link) (r : Response) :
    (s.place l r).engines = s.engines := by cases l <;> rfl

@[simp] theorem State.place_pins (l : Link) (r : Response) :
    (s.place l r).pins = s.pins := by cases l <;> rfl

@[simp] theorem State.place_carrierA (l : Link) (r : Response) :
    (s.place l r).carrierA = s.carrierA := by cases l <;> rfl

@[simp] theorem State.place_carrierB (l : Link) (r : Response) :
    (s.place l r).carrierB = s.carrierB := by cases l <;> rfl

@[simp] theorem State.place_trip (l : Link) (r : Response) :
    (s.place l r).trip = s.trip := by cases l <;> rfl

@[simp] theorem State.place_supplyMv (l : Link) (r : Response) :
    (s.place l r).supplyMv = s.supplyMv := by cases l <;> rfl

@[simp] theorem State.place_sessions (l : Link) (r : Response) :
    (s.place l r).sessions = s.sessions := by cases l <;> rfl

@[simp] theorem State.place_rstn (l : Link) (r : Response) :
    (s.place l r).rstn = s.rstn := by cases l <;> rfl

@[simp] theorem State.place_resetHeld (l : Link) (r : Response) :
    (s.place l r).resetHeld = s.resetHeld := by cases l <;> rfl

@[simp] theorem State.place_freeCount (l : Link) (r : Response) :
    (s.place l r).freeCount = s.freeCount := by cases l <;> rfl

@[simp] theorem State.place_pending (l : Link) (r : Response) :
    (s.place l r).pending = s.pending := by cases l <;> rfl

/-! ## `stageChange` -/

@[simp] theorem State.stageChange_channels (k : LeaseNo) (r : LeaseRecord) (x : List Settings) :
    (s.stageChange k r x).channels = s.channels := by simp [State.stageChange]

@[simp] theorem State.stageChange_pins (k : LeaseNo) (r : LeaseRecord) (x : List Settings) :
    (s.stageChange k r x).pins = s.pins := by simp [State.stageChange]

@[simp] theorem State.stageChange_trip (k : LeaseNo) (r : LeaseRecord) (x : List Settings) :
    (s.stageChange k r x).trip = s.trip := by simp [State.stageChange]

@[simp] theorem State.stageChange_supplyMv (k : LeaseNo) (r : LeaseRecord) (x : List Settings) :
    (s.stageChange k r x).supplyMv = s.supplyMv := by simp [State.stageChange]

@[simp] theorem State.stageChange_sessions (k : LeaseNo) (r : LeaseRecord) (x : List Settings) :
    (s.stageChange k r x).sessions = s.sessions := by simp [State.stageChange]

@[simp] theorem State.stageChange_linkA (k : LeaseNo) (r : LeaseRecord) (x : List Settings) :
    (s.stageChange k r x).linkA = s.linkA := by simp [State.stageChange]

@[simp] theorem State.stageChange_linkB (k : LeaseNo) (r : LeaseRecord) (x : List Settings) :
    (s.stageChange k r x).linkB = s.linkB := by simp [State.stageChange]

@[simp] theorem State.stageChange_lastServed (k : LeaseNo) (r : LeaseRecord) (x : List Settings) :
    (s.stageChange k r x).lastServed = s.lastServed := by simp [State.stageChange]

@[simp] theorem State.stageChange_rstn (k : LeaseNo) (r : LeaseRecord) (x : List Settings) :
    (s.stageChange k r x).rstn = s.rstn := by simp [State.stageChange]

@[simp] theorem State.stageChange_resetHeld (k : LeaseNo) (r : LeaseRecord) (x : List Settings) :
    (s.stageChange k r x).resetHeld = s.resetHeld := by simp [State.stageChange]

@[simp] theorem State.stageChange_freeCount (k : LeaseNo) (r : LeaseRecord) (x : List Settings) :
    (s.stageChange k r x).freeCount = s.freeCount := by simp [State.stageChange]

@[simp] theorem State.stageChange_pending (k : LeaseNo) (r : LeaseRecord) (x : List Settings) :
    (s.stageChange k r x).pending = s.pending := by simp [State.stageChange]

/-! ## `startDrain` -/

@[simp] theorem State.startDrain_channels (k : LeaseNo) (r : LeaseRecord) (x : RetirePlan) :
    (s.startDrain k r x).channels = s.channels := by simp [State.startDrain]

@[simp] theorem State.startDrain_pins (k : LeaseNo) (r : LeaseRecord) (x : RetirePlan) :
    (s.startDrain k r x).pins = s.pins := by simp [State.startDrain]

@[simp] theorem State.startDrain_trip (k : LeaseNo) (r : LeaseRecord) (x : RetirePlan) :
    (s.startDrain k r x).trip = s.trip := by simp [State.startDrain]

@[simp] theorem State.startDrain_supplyMv (k : LeaseNo) (r : LeaseRecord) (x : RetirePlan) :
    (s.startDrain k r x).supplyMv = s.supplyMv := by simp [State.startDrain]

@[simp] theorem State.startDrain_sessions (k : LeaseNo) (r : LeaseRecord) (x : RetirePlan) :
    (s.startDrain k r x).sessions = s.sessions := by simp [State.startDrain]

@[simp] theorem State.startDrain_linkA (k : LeaseNo) (r : LeaseRecord) (x : RetirePlan) :
    (s.startDrain k r x).linkA = s.linkA := by simp [State.startDrain]

@[simp] theorem State.startDrain_linkB (k : LeaseNo) (r : LeaseRecord) (x : RetirePlan) :
    (s.startDrain k r x).linkB = s.linkB := by simp [State.startDrain]

@[simp] theorem State.startDrain_lastServed (k : LeaseNo) (r : LeaseRecord) (x : RetirePlan) :
    (s.startDrain k r x).lastServed = s.lastServed := by simp [State.startDrain]

@[simp] theorem State.startDrain_rstn (k : LeaseNo) (r : LeaseRecord) (x : RetirePlan) :
    (s.startDrain k r x).rstn = s.rstn := by simp [State.startDrain]

@[simp] theorem State.startDrain_resetHeld (k : LeaseNo) (r : LeaseRecord) (x : RetirePlan) :
    (s.startDrain k r x).resetHeld = s.resetHeld := by simp [State.startDrain]

@[simp] theorem State.startDrain_freeCount (k : LeaseNo) (r : LeaseRecord) (x : RetirePlan) :
    (s.startDrain k r x).freeCount = s.freeCount := by simp [State.startDrain]

@[simp] theorem State.startDrain_pending (k : LeaseNo) (r : LeaseRecord) (x : RetirePlan) :
    (s.startDrain k r x).pending = s.pending := by simp [State.startDrain]

/-! ## `performClaim` -/

@[simp] theorem State.performClaim_trip (n : SessionNo) (q : ClaimRequest) (k : LeaseNo) (bs : List Binding) :
    (s.performClaim n q k bs).trip = s.trip := by simp [State.performClaim]

@[simp] theorem State.performClaim_supplyMv (n : SessionNo) (q : ClaimRequest) (k : LeaseNo) (bs : List Binding) :
    (s.performClaim n q k bs).supplyMv = s.supplyMv := by simp [State.performClaim]

@[simp] theorem State.performClaim_sessions (n : SessionNo) (q : ClaimRequest) (k : LeaseNo) (bs : List Binding) :
    (s.performClaim n q k bs).sessions = s.sessions := by simp [State.performClaim]

@[simp] theorem State.performClaim_linkA (n : SessionNo) (q : ClaimRequest) (k : LeaseNo) (bs : List Binding) :
    (s.performClaim n q k bs).linkA = s.linkA := by simp [State.performClaim]

@[simp] theorem State.performClaim_linkB (n : SessionNo) (q : ClaimRequest) (k : LeaseNo) (bs : List Binding) :
    (s.performClaim n q k bs).linkB = s.linkB := by simp [State.performClaim]

@[simp] theorem State.performClaim_lastServed (n : SessionNo) (q : ClaimRequest) (k : LeaseNo) (bs : List Binding) :
    (s.performClaim n q k bs).lastServed = s.lastServed := by simp [State.performClaim]

@[simp] theorem State.performClaim_rstn (n : SessionNo) (q : ClaimRequest) (k : LeaseNo) (bs : List Binding) :
    (s.performClaim n q k bs).rstn = s.rstn := by simp [State.performClaim]

@[simp] theorem State.performClaim_resetHeld (n : SessionNo) (q : ClaimRequest) (k : LeaseNo) (bs : List Binding) :
    (s.performClaim n q k bs).resetHeld = s.resetHeld := by simp [State.performClaim]

@[simp] theorem State.performClaim_freeCount (n : SessionNo) (q : ClaimRequest) (k : LeaseNo) (bs : List Binding) :
    (s.performClaim n q k bs).freeCount = s.freeCount := by simp [State.performClaim]

@[simp] theorem State.performClaim_pending (n : SessionNo) (q : ClaimRequest) (k : LeaseNo) (bs : List Binding) :
    (s.performClaim n q k bs).pending = s.pending := by simp [State.performClaim]

/-! ## `takeBoundary` -/

@[simp] theorem State.takeBoundary_trip (tb : TimebaseNo) (x : TimebaseRun) :
    (s.takeBoundary tb x).trip = s.trip := by simp [State.takeBoundary]

@[simp] theorem State.takeBoundary_supplyMv (tb : TimebaseNo) (x : TimebaseRun) :
    (s.takeBoundary tb x).supplyMv = s.supplyMv := by simp [State.takeBoundary]

@[simp] theorem State.takeBoundary_linkA (tb : TimebaseNo) (x : TimebaseRun) :
    (s.takeBoundary tb x).linkA = s.linkA := by simp [State.takeBoundary]

@[simp] theorem State.takeBoundary_linkB (tb : TimebaseNo) (x : TimebaseRun) :
    (s.takeBoundary tb x).linkB = s.linkB := by simp [State.takeBoundary]

@[simp] theorem State.takeBoundary_lastServed (tb : TimebaseNo) (x : TimebaseRun) :
    (s.takeBoundary tb x).lastServed = s.lastServed := by simp [State.takeBoundary]

@[simp] theorem State.takeBoundary_rstn (tb : TimebaseNo) (x : TimebaseRun) :
    (s.takeBoundary tb x).rstn = s.rstn := by simp [State.takeBoundary]

@[simp] theorem State.takeBoundary_resetHeld (tb : TimebaseNo) (x : TimebaseRun) :
    (s.takeBoundary tb x).resetHeld = s.resetHeld := by simp [State.takeBoundary]

@[simp] theorem State.takeBoundary_freeCount (tb : TimebaseNo) (x : TimebaseRun) :
    (s.takeBoundary tb x).freeCount = s.freeCount := by simp [State.takeBoundary]

@[simp] theorem State.takeBoundary_pending (tb : TimebaseNo) (x : TimebaseRun) :
    (s.takeBoundary tb x).pending = s.pending := by simp [State.takeBoundary]

/-! ## `refresh` -/

@[simp] theorem State.refresh_leases :
    (s.refresh).leases = s.leases := by simp only [State.refresh, State.refreshAttention, State.refreshPins, State.refreshEngines]

@[simp] theorem State.refresh_channels :
    (s.refresh).channels = s.channels := by simp only [State.refresh, State.refreshAttention, State.refreshPins, State.refreshEngines]

@[simp] theorem State.refresh_timebases :
    (s.refresh).timebases = s.timebases := by simp only [State.refresh, State.refreshAttention, State.refreshPins, State.refreshEngines]

@[simp] theorem State.refresh_carrierA :
    (s.refresh).carrierA = s.carrierA := by simp only [State.refresh, State.refreshAttention, State.refreshPins, State.refreshEngines]

@[simp] theorem State.refresh_carrierB :
    (s.refresh).carrierB = s.carrierB := by simp only [State.refresh, State.refreshAttention, State.refreshPins, State.refreshEngines]

@[simp] theorem State.refresh_trip :
    (s.refresh).trip = s.trip := by simp only [State.refresh, State.refreshAttention, State.refreshPins, State.refreshEngines]

@[simp] theorem State.refresh_supplyMv :
    (s.refresh).supplyMv = s.supplyMv := by simp only [State.refresh, State.refreshAttention, State.refreshPins, State.refreshEngines]

@[simp] theorem State.refresh_sessions :
    (s.refresh).sessions = s.sessions := by simp only [State.refresh, State.refreshAttention, State.refreshPins, State.refreshEngines]

@[simp] theorem State.refresh_lastServed :
    (s.refresh).lastServed = s.lastServed := by simp only [State.refresh, State.refreshAttention, State.refreshPins, State.refreshEngines]

@[simp] theorem State.refresh_rstn :
    (s.refresh).rstn = s.rstn := by simp only [State.refresh, State.refreshAttention, State.refreshPins, State.refreshEngines]

@[simp] theorem State.refresh_resetHeld :
    (s.refresh).resetHeld = s.resetHeld := by simp only [State.refresh, State.refreshAttention, State.refreshPins, State.refreshEngines]

@[simp] theorem State.refresh_freeCount :
    (s.refresh).freeCount = s.freeCount := by simp only [State.refresh, State.refreshAttention, State.refreshPins, State.refreshEngines]

@[simp] theorem State.refresh_pending :
    (s.refresh).pending = s.pending := by simp only [State.refresh, State.refreshAttention, State.refreshPins, State.refreshEngines]

/-! ## `releaseReset` -/

@[simp] theorem State.releaseReset_leases :
    (s.releaseReset).leases = s.leases := rfl

@[simp] theorem State.releaseReset_channels :
    (s.releaseReset).channels = s.channels := rfl

@[simp] theorem State.releaseReset_timebases :
    (s.releaseReset).timebases = s.timebases := rfl

@[simp] theorem State.releaseReset_engines :
    (s.releaseReset).engines = s.engines := rfl

@[simp] theorem State.releaseReset_pins :
    (s.releaseReset).pins = s.pins := rfl

@[simp] theorem State.releaseReset_carrierA :
    (s.releaseReset).carrierA = s.carrierA := rfl

@[simp] theorem State.releaseReset_carrierB :
    (s.releaseReset).carrierB = s.carrierB := rfl

@[simp] theorem State.releaseReset_supplyMv :
    (s.releaseReset).supplyMv = s.supplyMv := rfl

@[simp] theorem State.releaseReset_sessions :
    (s.releaseReset).sessions = s.sessions := rfl

@[simp] theorem State.releaseReset_linkA :
    (s.releaseReset).linkA = s.linkA := rfl

@[simp] theorem State.releaseReset_linkB :
    (s.releaseReset).linkB = s.linkB := rfl

@[simp] theorem State.releaseReset_lastServed :
    (s.releaseReset).lastServed = s.lastServed := rfl

@[simp] theorem State.releaseReset_rstn :
    (s.releaseReset).rstn = s.rstn := rfl

@[simp] theorem State.releaseReset_freeCount :
    (s.releaseReset).freeCount = s.freeCount := rfl

@[simp] theorem State.releaseReset_pending :
    (s.releaseReset).pending = s.pending := rfl

end Sys2Proof.Machine
end

