-- ==== Sys2Proof/Laws/Tables.lean ====
section
/-! SUPPORT. Reading a table after it is written, entry by entry: one lemma for each of the two table operations,
then for each operation of the state that writes a table entry by entry. Indices are stated both by number and by
`Fin`, since `simp` turns the second into the first. -/

namespace Sys2Proof.Machine

variable {α β : Type} {n : Nat}

/-! ## The two table operations -/

@[simp] theorem getElem_mapTable (f : Fin n → α → β) (t : Vector α n) (k : Nat) (h : k < n) :
    (mapTable f t)[k] = f ⟨k, h⟩ t[k] := by
  simp [mapTable]

theorem mapTable_at (f : Fin n → α → β) (t : Vector α n) (i : Fin n) :
    (mapTable f t)[i] = f i t[i] := by
  simp

@[simp] theorem getElem_putAt (t : Vector α n) (i : Fin n) (x : α) (k : Nat) (h : k < n) :
    (putAt t i x)[k] = if k = i.val then x else t[k] := by
  simp [putAt, Fin.ext_iff]

theorem putAt_self (t : Vector α n) (i : Fin n) (x : α) : (putAt t i x)[i] = x := by
  simp

theorem putAt_other (t : Vector α n) {i j : Fin n} (x : α) (h : j ≠ i) : (putAt t i x)[j] = t[j] := by
  simp [Fin.val_ne_of_ne h]

/-- Two tables are equal when they agree at every entry. -/
theorem table_ext {t u : Vector α n} (h : ∀ i : Fin n, t[i] = u[i]) : t = u :=
  Vector.ext fun k hk => by simpa using h ⟨k, hk⟩

theorem putAt_same (t : Vector α n) (i : Fin n) : putAt t i t[i] = t :=
  table_ext fun j => by
    by_cases h : j = i
    · subst h; exact putAt_self ..
    · exact putAt_other t _ h

theorem mapTable_mapTable {γ : Type} (f : Fin n → α → β) (g : Fin n → β → γ) (t : Vector α n) :
    mapTable g (mapTable f t) = mapTable (fun i x => g i (f i x)) t :=
  table_ext fun i => by simp

/-! ## Records of the state read back -/

variable (s : State)

@[simp] theorem State.link_setLink (l : Link) (p : LinkPort) : (s.setLink l p).link l = p := by
  cases l <;> simp [State.setLink, State.link]

theorem State.link_setLink_other {l m : Link} (p : LinkPort) (h : m ≠ l) :
    (s.setLink l p).link m = s.link m := by
  cases l <;> cases m <;> first | exact absurd rfl h | simp [State.setLink, State.link]

@[simp] theorem State.carrier_setCarrierUnit (c : Carrier) (u : CarrierUnit) :
    (s.setCarrierUnit c u).carrier c = u := by
  cases c <;> simp [State.setCarrierUnit, State.carrier]

theorem State.carrier_setCarrierUnit_other {c d : Carrier} (u : CarrierUnit) (h : d ≠ c) :
    (s.setCarrierUnit c u).carrier d = s.carrier d := by
  cases c <;> cases d <;> first | exact absurd rfl h | simp [State.setCarrierUnit, State.carrier]

@[simp] theorem State.input_setInput (i : FaultLine) (x : FaultInput) : (s.setInput i x).trip.input i = x := by
  cases i <;> simp [State.setInput, TripUnit.input]

theorem State.input_setInput_other {i j : FaultLine} (x : FaultInput) (h : j ≠ i) :
    (s.setInput i x).trip.input j = s.trip.input j := by
  cases i <;> cases j <;> first | exact absurd rfl h | simp [State.setInput, TripUnit.input]

@[simp] theorem State.sessions_setSession (n : SessionNo) (r : Session) (k : Nat) (h : k < 8) :
    (s.setSession n r).sessions[k] = if k = n.val then r else s.sessions[k] := by
  simp [State.setSession]

@[simp] theorem State.timebases_setTimebase (tb : TimebaseNo) (t : Timebase) (k : Nat) (h : k < 4) :
    (s.setTimebase tb t).timebases[k] = if k = tb.val then t else s.timebases[k] := by
  simp [State.setTimebase]

@[simp] theorem State.leases_setLeases (ls : Vector Lease 16) : (s.setLeases ls).leases = ls := by
  simp only [State.setLeases]

@[simp] theorem State.leases_putLease (n : LeaseNo) (l : Lease) (k : Nat) (h : k < 16) :
    (s.putLease n l).leases[k] = if k = n.val then l else s.leases[k] := by
  simp [State.putLease]

@[simp] theorem State.timebases_setLeases (ls : Vector Lease 16) (k : Nat) (h : k < 4) :
    (s.setLeases ls).timebases[k]
      = s.timebases[k].recount (bindingsOn s.leases ⟨k, h⟩) (bindingsOn ls ⟨k, h⟩) := by
  simp [State.setLeases]

theorem State.carrier_setLeases (ls : Vector Lease 16) (c : Carrier) :
    (s.setLeases ls).carrier c = (s.carrier c).recount (carrierUses s.leases c) (carrierUses ls c) := by
  cases c <;> simp [State.setLeases, State.carrier]

@[simp] theorem State.engines_mapEngines (f : LeaseNo → Engine → Engine) (k : Nat) (h : k < 12) :
    (s.mapEngines f).engines[k]
      = match s.engines[k].lease? with | none => s.engines[k] | some n => f n s.engines[k] := by
  cases h' : s.engines[k].lease? <;> simp only [State.mapEngines, getElem_mapTable, h']

@[simp] theorem State.sessions_recordNotices (f : LeaseNo → KindSet) (k : Nat) (h : k < 8) :
    (s.recordNotices f).sessions[k] = s.sessions[k].map fun r => r.recorded ⟨k, h⟩ s.leases f := by
  simp [State.recordNotices]

@[simp] theorem State.sessions_renewed (n : SessionNo) (k : Nat) (h : k < 8) :
    (s.renewed n).sessions[k]
      = if k = n.val then s.sessions[n].map SessionRecord.renewed else s.sessions[k] := by
  simp [State.renewed]

/-! ## Searching a table from its lowest number -/

theorem find_finRange_none {n : Nat} {p : Fin n → Bool} (h : ∀ i, p i = false) :
    (List.finRange n).find? p = none := by
  simp [List.find?_eq_none, h]

theorem find_finRange_some {n : Nat} {p : Fin n → Bool} {i : Fin n} (hi : p i = true)
    (hb : ∀ j, j < i → p j = false) : (List.finRange n).find? p = some i := by
  rw [List.find?_eq_some_iff_getElem]
  refine ⟨hi, i.val, by simp, by simp, fun j hj => ?_⟩
  simp only [List.getElem_finRange, Bool.not_eq_true']
  exact hb _ (by simpa [Fin.lt_def] using hj)

end Sys2Proof.Machine
end

