-- ==== Sys2Proof/Laws/Ops.lean ====
section
/-! SUPPORT. What each shared operation does, said once: the counts, teardown, trips, lapse, the timers and the
recomputation that ends a happening. Later proofs cite these and do not unfold the operations. -/

namespace Sys2Proof.Machine

variable (s : State)

/-! ## Counts (R48, R100) -/

@[simp] theorem Timebase.recount_same (t : Timebase) (k : Nat) : t.recount k k = t := by
  simp [Timebase.recount]

@[simp] theorem CarrierUnit.recount_same (u : CarrierUnit) (k : Nat) : u.recount k k = u := by
  simp [CarrierUnit.recount]

/-- The reference counts follow the lease table alone through each lease's bindings on the timebase. -/
theorem bindingsOn_congr {ls ms : Vector Lease 16} {tb : TimebaseNo}
    (h : ∀ n : LeaseNo, leaseBindingsOn ls[n] tb = leaseBindingsOn ms[n] tb) :
    bindingsOn ls tb = bindingsOn ms tb := by
  unfold bindingsOn
  exact congrArg List.sum (List.map_congr_left fun n _ => h n)

/-- The in-use counts follow the lease table alone through each lease's uses of the carrier. -/
theorem carrierUses_congr {ls ms : Vector Lease 16} {c : Carrier}
    (h : ∀ n : LeaseNo, leaseUses ls[n] c = leaseUses ms[n] c) :
    carrierUses ls c = carrierUses ms c := by
  unfold carrierUses
  exact congrArg List.sum (List.map_congr_left fun n _ => h n)

/-- Once the counts are right for the old lease table they are right for the new one (R48, R100). -/
theorem State.countsAgree_setLeases {s : State} (ls : Vector Lease 16) (h : s.CountsAgree) :
    (s.setLeases ls).CountsAgree := by
  refine ⟨fun tb => ?_, fun c => ?_⟩
  · have := h.1 tb
    simp only [Fin.getElem_fin] at this
    simp [Timebase.recount, this]
  · simp [State.carrier_setLeases, CarrierUnit.recount, h.2 c]

/-! ## Teardown (R16) -/

@[simp] theorem State.leases_freeLeases (w : LeaseNo → Bool) (k : Nat) (h : k < 16) :
    (s.freeLeases w).leases[k] = if w ⟨k, h⟩ then none else s.leases[k] := by
  simp [State.freeLeases, freedLeases, State.setLeases]

@[simp] theorem State.channels_freeLeases (w : LeaseNo → Bool) (k : Nat) (h : k < 12) :
    (s.freeLeases w).channels[k] = freeChannelIf w s.channels[k] := by
  simp [State.freeLeases, State.setLeases, State.mapEngines]

@[simp] theorem State.pins_freeLeases (w : LeaseNo → Bool) (k : Nat) (h : k < 24) :
    (s.freeLeases w).pins[k] = s.pins[k].releaseIf w := by
  simp [State.freeLeases, State.setLeases, State.mapEngines]

/-- An engine of a freed lease becomes UNUSED and every other keeps what it holds (R16). -/
theorem State.engines_freeLeases (w : LeaseNo → Bool) (k : Nat) (h : k < 12) :
    (s.freeLeases w).engines[k] = if s.engines[k].lease?.any w then .unused else s.engines[k] := by
  simp only [State.freeLeases, State.setLeases, State.engines_mapEngines]
  cases s.engines[k].lease? <;> simp

/-- A timebase that a freed lease was bound to is settled; every other keeps its record but for its count
(R16, R64, R65). -/
theorem State.timebases_freeLeases (w : LeaseNo → Bool) (k : Nat) (h : k < 4) :
    (s.freeLeases w).timebases[k]
      = if leavesTimebase s.leases w ⟨k, h⟩ then
          (s.timebases[k].recount (bindingsOn s.leases ⟨k, h⟩)
            (bindingsOn (freedLeases s.leases w) ⟨k, h⟩)).settle (freedLeases s.leases w) ⟨k, h⟩
        else s.timebases[k].recount (bindingsOn s.leases ⟨k, h⟩)
            (bindingsOn (freedLeases s.leases w) ⟨k, h⟩) := by
  simp [State.freeLeases, State.setLeases, State.mapEngines]

theorem State.carrier_freeLeases (w : LeaseNo → Bool) (c : Carrier) :
    (s.freeLeases w).carrier c = (s.carrier c).recount (carrierUses s.leases c)
      (carrierUses (freedLeases s.leases w) c) := by
  cases c <;> simp [State.freeLeases, State.setLeases, State.carrier, State.mapEngines]

@[simp] theorem Timebase.refCount_settle (t : Timebase) (ls : Vector Lease 16) (tb : TimebaseNo) :
    (t.settle ls tb).refCount = t.refCount := by
  unfold Timebase.settle
  repeat (first | split | rfl)

/-! ## Trips (R111) -/

/-- A trip changes no binding and no timebase of a lease. -/
theorem leaseBindingsOn_trip (l : Lease) (w : LeaseRecord → Bool) (c : Source) (tb : TimebaseNo) :
    leaseBindingsOn (l.map fun r => if w r then r.trip c else r) tb = leaseBindingsOn l tb := by
  cases l with
  | none => rfl
  | some r =>
    simp only [Option.map_some, leaseBindingsOn]
    split <;> rfl

@[simp] theorem getElem_trippedLeases (ls : Vector Lease 16) (w : LeaseRecord → Bool) (c : Source) (k : Nat)
    (h : k < 16) :
    (trippedLeases ls w c)[k] = ls[k].map fun r => if w r then r.trip c else r := by
  simp [trippedLeases]

@[simp] theorem State.leases_takeTrip (w : LeaseRecord → Bool) (c : Source) (k : Nat) (h : k < 16) :
    (s.takeTrip w c).leases[k] = s.leases[k].map fun r => if w r then r.trip c else r := by
  simp [State.takeTrip]

/-- A trip leaves every timebase record as it was: it frees no lease and moves no binding (R59, R111). -/
@[simp] theorem State.timebases_takeTrip (w : LeaseRecord → Bool) (c : Source) :
    (s.takeTrip w c).timebases = s.timebases := by
  refine table_ext fun tb => ?_
  have h : bindingsOn (trippedLeases s.leases w c) tb = bindingsOn s.leases tb :=
    bindingsOn_congr fun n => by
      simp only [Fin.getElem_fin, getElem_trippedLeases]
      exact leaseBindingsOn_trip ..
  simp [State.takeTrip, h]

/-- The engines of a lease that a trip reaches are HELD with no staged settings; the others are kept (R87,
R111). -/
theorem State.engines_takeTrip (w : LeaseRecord → Bool) (c : Source) (k : Nat) (h : k < 12) :
    (s.takeTrip w c).engines[k]
      = match s.engines[k].lease? with
        | none => s.engines[k]
        | some n => if reaches w s.leases[n] then s.engines[k].hold.dropStage else s.engines[k] := by
  cases h' : s.engines[k].lease? <;>
    simp only [State.takeTrip, State.setLeases_engines, State.engines_mapEngines, State.recordNotices_engines, h']

theorem State.sessions_takeTrip (w : LeaseRecord → Bool) (c : Source) :
    (s.takeTrip w c).sessions
      = (s.recordNotices fun n =>
          if reaches w s.leases[n] then { KindSet.empty with tripped := true } else .empty).sessions := by
  simp [State.takeTrip]

/-- The latch of an input set: nothing where it was set already, else the trip of its source (R105, R110). -/
theorem State.setInputLatch_cases (i : FaultLine) :
    ((s.trip.input i).latch = true ∧ s.setInputLatch i = s)
      ∨ ((s.trip.input i).latch = false
        ∧ s.setInputLatch i
          = (s.setInput i { s.trip.input i with latch := true }).takeTrip (subscribedTo i) (lineSource i)) := by
  simp only [State.setInputLatch]
  cases h : (s.trip.input i).latch
  · exact .inr ⟨rfl, by simp⟩
  · exact .inl ⟨rfl, by simp⟩

/-- The supply latch set: nothing where it was set already, else the trip of SUPPLY (R107, R110). -/
theorem State.setSupplyLatch_cases :
    (s.trip.supplyLatch = true ∧ s.setSupplyLatch = s)
      ∨ (s.trip.supplyLatch = false
        ∧ s.setSupplyLatch
          = ({ s with trip := { s.trip with supplyLatch := true } }).takeTrip (fun _ => true) .supply) := by
  unfold State.setSupplyLatch
  cases h : s.trip.supplyLatch
  · exact .inr ⟨rfl, by simp⟩
  · exact .inl ⟨rfl, by simp⟩

/-! ## Sessions (R130, R131, R134) -/

/-- A session lapses only while it is OPEN; then it is LAPSED with its hold and its leases take the trip of LAPSE
(R131). -/
theorem State.lapseSession_cases (n : SessionNo) :
    s.lapseSession n = s ∨ ∃ r t, s.sessions[n] = some r ∧ r.status = .opened t
      ∧ s.lapseSession n
        = (s.setSession n (some { r with status := .lapsed (Config.holdIntervals * r.interval) })).takeTrip
            (fun l => l.holder == n) .lapse := by
  unfold State.lapseSession
  split
  · exact .inl rfl
  · split
    · exact .inl rfl
    · exact .inr ⟨_, _, ‹_›, ‹_›, rfl⟩

theorem State.lapseSession_opened {s : State} {n : SessionNo} {r : SessionRecord} {t : Nat}
    (hr : s.sessions[n] = some r) (ht : r.status = .opened t) :
    s.lapseSession n
      = (s.setSession n (some { r with status := .lapsed (Config.holdIntervals * r.interval) })).takeTrip
          (fun l => l.holder == n) .lapse := by
  simp only [State.lapseSession, hr, ht]

/-- One timer happening: nothing on a FREE record, one tick off the time or the hold that is running, the lapse of
an OPEN session or the closing of a LAPSED one (R130). -/
theorem State.timerHappening_cases (n : SessionNo) :
    s.timerHappening n = s
      ∨ (∃ r x, s.sessions[n] = some r ∧ s.timerHappening n = s.setSession n (some { r with status := x })
          ∧ ((∃ t, r.status = .opened t ∧ 1 < t ∧ x = .opened (t - 1))
              ∨ ∃ t, r.status = .lapsed t ∧ 1 < t ∧ x = .lapsed (t - 1)))
      ∨ s.timerHappening n = s.lapseSession n
      ∨ s.timerHappening n = s.closeSession n := by
  unfold State.timerHappening
  split
  · exact .inl rfl
  · split
    · split
      · exact .inr (.inr (.inl rfl))
      · exact .inr (.inl ⟨_, _, ‹_›, rfl, .inl ⟨_, ‹_›, by omega, rfl⟩⟩)
    · split
      · exact .inr (.inr (.inr rfl))
      · exact .inr (.inl ⟨_, _, ‹_›, rfl, .inr ⟨_, ‹_›, by omega, rfl⟩⟩)

@[simp] theorem State.leases_closeSession (n : SessionNo) (k : Nat) (h : k < 16) :
    (s.closeSession n).leases[k] = if heldBy s.leases[k] n then none else s.leases[k] := by
  simp [State.closeSession]

@[simp] theorem State.sessions_closeSession (n : SessionNo) (k : Nat) (h : k < 8) :
    (s.closeSession n).sessions[k] = if k = n.val then none else s.sessions[k] := by
  simp [State.closeSession]

/-! ## The end of a happening (R86, R95, R151) -/

theorem State.link_refresh (l : Link) :
    s.refresh.link l = { s.link l with attention := s.attentionOf l } := by
  cases l <;>
    simp [State.refresh, State.refreshAttention, State.refreshPins, State.refreshEngines, State.link,
      State.attentionOf, State.noticePending]

@[simp] theorem State.engines_refresh (k : Nat) (h : k < 12) :
    s.refresh.engines[k] = s.engineNow s.engines[k] := by
  simp [State.refresh, State.refreshAttention, State.refreshPins, State.refreshEngines]

theorem State.pins_refresh (k : Nat) (h : k < 24) :
    s.refresh.pins[k] = { s.pins[k] with level := s.refreshEngines.levelOf s.pins[k] } := by
  simp [State.refresh, State.refreshAttention, State.refreshPins, State.refreshEngines]

/-- The recomputation changes no owner and no rest level of a pin. -/
theorem State.pin_refresh_kept (k : Nat) (h : k < 24) :
    s.refresh.pins[k].owner = s.pins[k].owner ∧ s.refresh.pins[k].rest = s.pins[k].rest := by
  simp [State.pins_refresh]

/-- The recomputation changes no slot, flag, transaction or byte of a link. -/
theorem State.link_refresh_kept (l : Link) :
    (s.refresh.link l).slot = (s.link l).slot ∧ (s.refresh.link l).refused = (s.link l).refused
      ∧ (s.refresh.link l).transaction = (s.link l).transaction
      ∧ (s.refresh.link l).out = (s.link l).out := by
  simp [State.link_refresh]

/-- The attention lines of a state brought up to date are those of R151. -/
theorem State.attention_refresh (l : Link) : (s.refresh.link l).attention = s.refresh.attentionOf l := by
  rw [State.link_refresh]
  simp only [State.attentionOf, State.noticePending, State.refresh_resetHeld, State.refresh_sessions,
    (State.link_refresh_kept s l).1]

/-- What an engine generates does not depend on what is generated. -/
theorem State.engineNow_refresh (e : Engine) : s.refresh.engineNow (s.engineNow e) = s.engineNow e := by
  have hc : ∀ c, s.refresh.carrier c = s.carrier c := fun c => by cases c <;> simp [State.carrier]
  cases e with
  | unused => rfl
  | held u => rfl
  | generating u d o =>
    simp [State.engineNow, State.engineOutput, State.counterOf, hc]

theorem State.leases_refreshEngines : s.refreshEngines.leases = s.leases := by
  simp only [State.refreshEngines]

/-- The level of a pin depends on the leases, the engines, its owner and its rest level alone (R95). -/
theorem State.levelOf_congr {s t : State} {p q : PinEntry} (hl : s.leases = t.leases)
    (he : s.engines = t.engines) (ho : p.owner = q.owner) (hr : p.rest = q.rest) :
    s.levelOf p = t.levelOf q := by
  simp only [State.levelOf, hl, he, ho, hr]

/-- A state whose outputs are brought up to date is up to date (R86, R95, R151). -/
theorem State.settled_refresh : s.refresh.Settled := by
  unfold State.Settled
  have he : s.refresh.refresh.engines = s.refresh.engines := table_ext fun c => by
    simp [State.engineNow_refresh]
  have hr : s.refresh.refreshEngines.engines = s.refreshEngines.engines := table_ext fun c => by
    simp [State.refreshEngines, State.engineNow_refresh]
  have hp : s.refresh.refresh.pins = s.refresh.pins := table_ext fun p => by
    have hl : s.refresh.refreshEngines.leases = s.refreshEngines.leases := by
      rw [State.leases_refreshEngines, State.refresh_leases, State.leases_refreshEngines]
    have hlev := State.levelOf_congr hl hr (State.pin_refresh_kept s p.val p.isLt).1
      (State.pin_refresh_kept s p.val p.isLt).2
    rw [Fin.getElem_fin, Fin.getElem_fin, State.pins_refresh s.refresh, hlev, State.pins_refresh s]
  have hA : s.refresh.refresh.linkA = s.refresh.linkA := by
    have := State.attention_refresh s .a
    have h2 := State.link_refresh s.refresh .a
    simp only [State.link] at this h2
    rw [h2, ← this]
  have hB : s.refresh.refresh.linkB = s.refresh.linkB := by
    have := State.attention_refresh s .b
    have h2 := State.link_refresh s.refresh .b
    simp only [State.link] at this h2
    rw [h2, ← this]
  exact State.ext (State.refresh_leases _) (State.refresh_channels _) (State.refresh_timebases _) he hp
    (State.refresh_carrierA _) (State.refresh_carrierB _) (State.refresh_trip _) (State.refresh_supplyMv _)
    (State.refresh_sessions _) hA hB (State.refresh_lastServed _) (State.refresh_rstn _) (State.refresh_resetHeld _)
    (State.refresh_freeCount _) (State.refresh_pending _)

/-- What an engine generates depends on the leases, the timebases and the carriers alone (R86, R89, R92). -/
theorem State.engineNow_congr {s t : State} (hl : t.leases = s.leases) (ht : t.timebases = s.timebases)
    (hA : t.carrierA = s.carrierA) (hB : t.carrierB = s.carrierB) (e : Engine) :
    t.engineNow e = s.engineNow e := by
  have hc : ∀ c, t.carrier c = s.carrier c := fun c => by cases c <;> simp [State.carrier, hA, hB]
  cases e <;> simp [State.engineNow, State.engineOutput, State.counterOf, hl, ht, hc]

/-- In a settled state every engine's output is the one it has. -/
theorem State.engineNow_settled {s : State} (h : s.Settled) (c : ChannelNo) :
    s.engineNow s.engines[c] = s.engines[c] := by
  have := congrArg (fun z => z.engines[c]) h
  simpa using this

/-- In a settled state every pin's level is the one it has. -/
theorem State.levelOf_settled {s : State} (h : s.Settled) (k : Nat) (hk : k < 24) :
    { s.pins[k] with level := s.refreshEngines.levelOf s.pins[k] } = s.pins[k] := by
  have := congrArg (fun z => z.pins[k]) h
  simpa only [State.pins_refresh] using this

/-- A state that keeps the records the outputs follow from, and the outputs, of a settled state keeps them when they
are brought up to date. -/
theorem State.outputsKept_of_kept {s t : State} (h : s.Settled) (hl : t.leases = s.leases)
    (ht : t.timebases = s.timebases) (hA : t.carrierA = s.carrierA) (hB : t.carrierB = s.carrierB)
    (he : t.engines = s.engines) (hp : t.pins = s.pins) : s.OutputsKept t.refresh := by
  have hen : ∀ e, t.engineNow e = s.engineNow e := State.engineNow_congr hl ht hA hB
  have hr : t.refreshEngines.engines = s.refreshEngines.engines := table_ext fun c => by
    simp [State.refreshEngines, hen, he]
  have hlr : t.refreshEngines.leases = s.refreshEngines.leases := by
    rw [State.leases_refreshEngines, State.leases_refreshEngines, hl]
  refine ⟨table_ext fun c => ?_, table_ext fun p => ?_⟩
  · have := State.engineNow_settled h c
    simp only [Fin.getElem_fin] at this
    simp [hen, he, this]
  · rw [Fin.getElem_fin, State.pins_refresh]
    simp only [hp, State.levelOf_congr hlr hr (p := s.pins[p.val]) rfl rfl, Fin.getElem_fin]
    exact State.levelOf_settled h p.val p.isLt

/-- A happening while no reset is held ends with the outputs brought up to date. -/
theorem State.happen_free {s : State} (f : State → State) (h : s.resetHeld = false) :
    s.happen f = .next (f s).refresh := by
  simp [State.happen, h]

/-- No happening is taken while a full reset is held (R122, R143, R166). -/
theorem State.happen_held {s : State} (f : State → State) (h : s.resetHeld = true) :
    s.happen f = .next s := by
  simp [State.happen, h]

end Sys2Proof.Machine
end

