-- ==== Sys2Proof/Laws/Executor.lean ====
section
/-! SUPPORT. What the executor does, said once: which command it chooses, when the common checks pass, what a served
command leaves, and that it leaves the links and the queue as R162 says. -/

namespace Sys2Proof.Machine

variable {s : State}

/-! ## Checks -/

@[simp] theorem check_ok (status : Status) (d : Byte) : check true status d = .ok () := rfl

@[simp] theorem check_error (status : Status) (d : Byte) :
    check false status d = .error { status := status, detail := d } := rfl

theorem check_eq_ok {cond : Bool} {status : Status} {d : Byte} :
    check cond status d = .ok () ↔ cond = true := by
  cases cond <;> simp

@[simp] theorem need_some {α : Type} (a : α) (status : Status) (d : Byte) :
    need (some a) status d = .ok a := rfl

@[simp] theorem need_none {α : Type} (status : Status) (d : Byte) :
    need (none : Option α) status d = .error { status := status, detail := d } := rfl

theorem need_eq_ok {α : Type} {x : Option α} {a : α} {status : Status} {d : Byte} :
    need x status d = .ok a ↔ x = some a := by
  cases x <;> simp

/-- A number below the size of a table is an index of it. -/
@[simp] theorem indexOf_val {n : Nat} (i : Fin n) : indexOf n i.val = some i := by
  simp [indexOf]

theorem indexOf_eq_some {n k : Nat} {i : Fin n} : indexOf n k = some i ↔ k = i.val := by
  unfold indexOf
  split
  · simp [Fin.ext_iff]
  · simp only [reduceCtorEq, false_iff]
    omega

/-! ## The common checks (R163) -/

/-- A served command passes the common checks for its session. -/
theorem State.checks_of_serves {c : Command} {l : Link} {ps : List Byte} {n : SessionNo} {r : SessionRecord}
    (h : s.Serves c l ps n r) :
    (do checkLength c { code := c.code, params := ps }
        s.checkSession c l { code := c.code, params := ps }) = Except.ok n := by
  have hlen : c.lengths.contains ps.length = true := by simpa using h.length
  have hidx : indexOf 8 (arg ps 0) = some n := by rw [h.session, indexOf_val]
  simp only [checkLength, hlen, check_ok, State.checkSession, hidx, need_some, bind, Except.bind]
  rw [h.record]
  simp only [need_some, h.link, beq_self_eq_true, check_ok, h.allowed]

/-- A served command: its own checks and effect on the renewed tables (R128, R163, R164). -/
theorem State.serveSession_of_serves {c : Command} {l : Link} {ps : List Byte} {n : SessionNo}
    {r : SessionRecord} (perform : State → SessionNo → List Byte → Performed) (h : s.Serves c l ps n r) :
    s.serveSession c perform l { code := c.code, params := ps }
      = settleRefusal (s.renewed n) (perform (s.renewed n) n ps) := by
  unfold State.serveSession
  rw [State.checks_of_serves h]

/-- A served command that its own checks accept: the state it leaves, with the response placed (R162, R164). -/
theorem State.takeSession_ok {c : Command} {l : Link} {ps : List Byte} {n : SessionNo} {r : SessionRecord}
    {perform : State → SessionNo → List Byte → Performed} {t : State} {resp : Response}
    (h : s.Serves c l ps n r) (hp : perform (s.renewed n) n ps = .ok (t, resp)) :
    s.takeSession c perform = t.place l resp := by
  unfold State.takeSession
  rw [h.chosen]
  simp only [if_true, State.serveSession_of_serves perform h, hp, settleRefusal]

/-- A served command that its own checks refuse: the renewal and the response alone (R164). -/
theorem State.takeSession_error {c : Command} {l : Link} {ps : List Byte} {n : SessionNo} {r : SessionRecord}
    {perform : State → SessionNo → List Byte → Performed} {e : Reject}
    (h : s.Serves c l ps n r) (hp : perform (s.renewed n) n ps = .error e) :
    s.takeSession c perform = (s.renewed n).place l e.response := by
  unfold State.takeSession
  rw [h.chosen]
  simp only [if_true, State.serveSession_of_serves perform h, hp, settleRefusal]

/-- A happening whose command the executor does not choose does not come about (log 6). -/
theorem State.takeSession_other {c : Command} {perform : State → SessionNo → List Byte → Performed}
    (h : ∀ l f, s.chosen = some (l, f) → f.code ≠ c.code) : s.takeSession c perform = s := by
  unfold State.takeSession
  split
  · rfl
  · rename_i l f hc
    rw [if_neg (h l f hc)]

/-! ## Placing the response (R162) -/

theorem State.link_place (t : State) (l : Link) (resp : Response) (m : Link) :
    (t.place l resp).link m = if m = l then { t.link l with slot := .done resp } else t.link m := by
  cases l <;> cases m <;> simp [State.place, State.setLink, State.link]

@[simp] theorem State.lastServed_place (t : State) (l : Link) (resp : Response) :
    (t.place l resp).lastServed = l := by
  simp [State.place]

/-- A state with the same links, reset, RSTn, free values and queue, once the response is placed and the outputs are
brought up to date, has answered the command. -/
theorem State.answered_of_kept {s t : State} (l : Link) (resp : Response)
    (hA : t.linkA = s.linkA) (hB : t.linkB = s.linkB) (hr : t.resetHeld = s.resetHeld) (hn : t.rstn = s.rstn)
    (hf : t.freeCount = s.freeCount) (hq : t.pending = s.pending) :
    s.Answered (t.place l resp).refresh l resp := by
  have hlink : ∀ m, t.link m = s.link m := fun m => by cases m <;> simp [State.link, hA, hB]
  have hplace : ∀ m, ((t.place l resp).refresh.link m)
      = { (if m = l then { t.link l with slot := .done resp } else t.link m) with
          attention := (t.place l resp).attentionOf m } := fun m => by
    rw [State.link_refresh, State.link_place]
  refine ⟨?_, ?_, ?_, ?_, ?_, ?_, ?_, ?_, ?_, ?_, ?_⟩
  · simp [hplace]
  · simp
  · intro m hm; simp [hplace, hm, hlink]
  · intro m; by_cases hm : m = l <;> simp [hplace, hm, hlink]
  · intro m; by_cases hm : m = l <;> simp [hplace, hm, hlink]
  · intro m; by_cases hm : m = l <;> simp [hplace, hm, hlink]
  · intro m; exact State.attention_refresh ..
  · simp [hr]
  · simp [hn]
  · simp [hf]
  · simp [hq]

/-- A state with the same links, last-served link, RSTn, free values and queue, once the outputs are brought up to date,
has kept the links. -/
theorem State.linksKept_of_kept {s t : State} (hA : t.linkA = s.linkA) (hB : t.linkB = s.linkB)
    (hl : t.lastServed = s.lastServed) (hn : t.rstn = s.rstn) (hf : t.freeCount = s.freeCount)
    (hq : t.pending = s.pending) : s.LinksKept t.refresh := by
  have hlink : ∀ m, t.link m = s.link m := fun m => by cases m <;> simp [State.link, hA, hB]
  refine ⟨fun m => ⟨?_, ?_, ?_, ?_⟩, fun m => State.attention_refresh .., ?_, ?_, ?_, ?_⟩
  · simp [State.link_refresh, hlink]
  · simp [State.link_refresh, hlink]
  · simp [State.link_refresh, hlink]
  · simp [State.link_refresh, hlink]
  · simp [hl]
  · simp [hn]
  · simp [hf]
  · simp [hq]

/-- The renewal of a served command's session (R128). -/
theorem State.renews_renewed {c : Command} {l : Link} {ps : List Byte} {n : SessionNo} {r : SessionRecord}
    (h : s.Serves c l ps n r) {t : State} (ht : t.sessions = (s.renewed n).sessions) : s.Renews t n r := by
  have hr := h.record
  simp only [Fin.getElem_fin] at hr
  refine ⟨?_, fun j hj => ?_⟩
  · simp [ht, hr]
  · simp [ht, Fin.val_ne_of_ne hj]

/-- A served command that changes no table: answered, the session renewed, and nothing else changed. -/
theorem State.answeredAlone_renewed {c : Command} {l : Link} {ps : List Byte} {n : SessionNo}
    {r : SessionRecord} (h : s.Serves c l ps n r) (hs : s.Settled) (resp : Response) :
    s.AnsweredAlone ((s.renewed n).place l resp).refresh l resp n r :=
  { answered := State.answered_of_kept l resp (by simp) (by simp) (by simp) (by simp) (by simp) (by simp)
    renews := State.renews_renewed h (by simp)
    leases := by constructor <;> simp
    outputs := State.outputsKept_of_kept hs (by simp) (by simp) (by simp) (by simp) (by simp) (by simp)
    trip := by constructor <;> simp }

/-- A served command that its own checks refuse, as the happening of its row: the refusal is placed, the session renewed,
and nothing else changed (R128, R164). -/
theorem State.happen_refused {c : Command} {l : Link} {ps : List Byte} {n : SessionNo} {r : SessionRecord}
    {perform : State → SessionNo → List Byte → Performed} {status : Status} {detail : Byte}
    (h : s.Serves c l ps n r) (hs : s.Settled)
    (hp : perform (s.renewed n) n ps = .error { status := status, detail := detail }) :
    ∃ t, s.happen (fun s => s.takeSession c perform) = .next t
      ∧ s.AnsweredAlone t l { status := status, detail := detail, data := [] } n r := by
  rw [State.happen_free _ h.notHeld, State.takeSession_error h hp]
  exact ⟨_, rfl, State.answeredAlone_renewed h hs _⟩

/-! ## What a command's own checks read of the renewed tables (R128) -/

@[simp] theorem SessionRecord.quota_renewed (r : SessionRecord) : r.renewed.quota = r.quota := by
  unfold SessionRecord.renewed; split <;> rfl

@[simp] theorem SessionRecord.cls_renewed (r : SessionRecord) : r.renewed.cls = r.cls := by
  unfold SessionRecord.renewed; split <;> rfl

theorem State.session_renewed {n : SessionNo} {r : SessionRecord} (h : s.sessions[n] = some r) :
    (s.renewed n).sessions[n] = some r.renewed := by
  simp only [Fin.getElem_fin] at h
  simp [h]

theorem State.isSupervisor_renewed {n : SessionNo} {r : SessionRecord} (h : s.sessions[n] = some r) (m : SessionNo) :
    (s.renewed n).isSupervisor m = s.isSupervisor m := by
  simp only [State.isSupervisor]
  by_cases hm : m = n
  · subst hm
    rw [State.session_renewed h, h]
    simp
  · simp [Fin.val_ne_of_ne hm]

theorem State.isLapsed_renewed {n : SessionNo} {r : SessionRecord} (h : s.sessions[n] = some r) (m : SessionNo) :
    (s.renewed n).isLapsed m = s.isLapsed m := by
  simp only [State.isLapsed]
  by_cases hm : m = n
  · subst hm
    rw [State.session_renewed h, h]
    cases hs : r.status <;> simp [SessionRecord.renewed, hs]
  · simp [Fin.val_ne_of_ne hm]

/-- A session is of class SUPERVISOR when its record is. -/
theorem State.isSupervisor_iff {n : SessionNo} {r : SessionRecord} (h : s.sessions[n] = some r) :
    s.isSupervisor n = true ↔ r.cls = .supervisor := by
  simp [State.isSupervisor, h]

end Sys2Proof.Machine
end

