-- ==== Sys2Proof/Laws/Operands.lean ====
section
/-! SUPPORT. What reading parameters does, said once: a settings byte, a safe byte, the blocks of CLAIM and AMEND and the
request of a claim read as what the bytes spell (R24 to R27, R68 to R70, R169, R170), and a check in binding-index
order refuses with the first entry that fails. -/

namespace Sys2Proof.Machine

theorem arg_lt (ps : List Byte) (k : Nat) : arg ps k < 256 := (ps.getD k 0).isLt

/-- A settings byte reads as the settings and the drive mode whose code it is, and no other byte does (R169). -/
theorem readSettings_eq_some {duty deadBand b : Nat} {st : Settings} {d : DriveMode} :
    readSettings duty deadBand b = some (st, d)
      ↔ duty = st.duty ∧ deadBand = st.deadBand ∧ b = settingsCode st d := by
  rcases st with ⟨du, p, db, g, m⟩
  constructor
  · intro h
    have hb : b < 32 := by
      by_contra hb
      simp [readSettings, hb] at h
    interval_cases b <;>
      simp only [readSettings, gateOfCode, bitAt, Nat.reduceMod, Nat.reduceLT, Nat.reducePow, Nat.reduceDiv, if_true,
        Option.some.injEq, Prod.mk.injEq, Settings.mk.injEq, reduceCtorEq] at h <;>
      (obtain ⟨⟨rfl, rfl, rfl, rfl, rfl⟩, rfl⟩ := h; exact ⟨rfl, rfl, rfl⟩)
  · rintro ⟨rfl, rfl, rfl⟩
    rcases g with _ | (_ | _) <;> cases m <;> cases p <;> cases d <;>
      simp [readSettings, settingsCode, gateOfCode, bitAt]

/-- A safe byte reads as the two levels whose code it is, and no other byte does (R169). -/
theorem readSafe_eq_some {b : Nat} {p c : Level} : readSafe b = some (p, c) ↔ b = levelCode p + 4 * levelCode c := by
  constructor
  · intro h
    have hb : b < 16 := by
      by_contra hb
      simp [readSafe, hb] at h
    interval_cases b <;> revert h <;> cases p <;> cases c <;> decide
  · rintro rfl
    cases p <;> cases c <;> rfl

/-- Settings fit a kind of binding when its dead band and its gate do (R7, R27, R70). -/
theorem settingsFit_iff {α : Type} {st : Settings} {k : Option α} : settingsFit st k.isSome = true
    ↔ (k = none → st.deadBand = 0) ∧ (k ≠ none → st.gate = none) := by
  cases k <;> simp [settingsFit]

theorem readComplementPin_eq_some {n : Nat} {k : Option PinNo} :
    readComplementPin n = some k ↔ n = (match k with | none => 0xFF | some p => p.val) := by
  unfold readComplementPin
  cases k with
  | none =>
    by_cases h : n = 0xFF
    · simp [h]
    · simp [h]
  | some p =>
    by_cases h : n = 0xFF
    · have := p.isLt
      simp [h]; omega
    · simp [h, indexOf_eq_some]

theorem claimBlock_offsets (i : Nat) : 7 + 7 * i + 1 = 8 + 7 * i ∧ 7 + 7 * i + 2 = 9 + 7 * i ∧ 7 + 7 * i + 4 = 11 + 7 * i
    ∧ 7 + 7 * i + 5 = 12 + 7 * i ∧ 7 + 7 * i + 6 = 13 + 7 * i := by omega

theorem amendBlock_offsets (i : Nat) : 3 + 4 * i + 2 = 5 + 4 * i ∧ 3 + 4 * i + 3 = 6 + 4 * i := by omega

/-- The seven bytes of a block read as the block they spell (R24, R27, R170). -/
theorem readClaimBlock_eq_some {ps : List Byte} {i : Nat} {earlier : List PinNo} {x : ClaimBlock} :
    readClaimBlock ps (7 + 7 * i) earlier = some x
      ↔ ClaimBlockSpelled ps i x ∧ ∀ p ∈ x.pins, p ∉ earlier := by
  obtain ⟨pin, cpin, st, drive, safe, csafe⟩ := x
  obtain ⟨o1, o2, o4, o5, o6⟩ := claimBlock_offsets i
  simp only [readClaimBlock, bind, Option.bind_eq_some_iff, Prod.exists, o1, o2, o4, o5, o6]
  constructor
  · intro h
    obtain ⟨pin', h1, cpin', h2, st', drive', h3, safe', csafe', h4, h⟩ := h
    split at h
    · rename_i hc
      obtain ⟨hd, hb, hf, hne, hall⟩ := hc
      simp only [Option.some.injEq, ClaimBlock.mk.injEq] at h
      obtain ⟨rfl, rfl, rfl, rfl, rfl, rfl⟩ := h
      obtain ⟨e1, e2, e3⟩ := readSettings_eq_some.1 h3
      have hs := settingsFit_iff.1 hf
      refine ⟨⟨indexOf_eq_some.1 h1, readComplementPin_eq_some.1 h2, ⟨e1, e1 ▸ hd⟩, ⟨e2, e2 ▸ hb⟩, e3,
        readSafe_eq_some.1 h4, hs.1, hs.2, hne⟩, ?_⟩
      simpa using hall
    · cases h
  · rintro ⟨⟨h1, h2, h3, h4, h5, h6, h7, h8, h9⟩, h10⟩
    have e1 := indexOf_eq_some.2 h1
    have e2 := readComplementPin_eq_some.2 h2
    have e3 := readSettings_eq_some.2 ⟨h3.1, h4.1, h5⟩
    have e4 := readSafe_eq_some.2 h6
    have e5 := settingsFit_iff.2 ⟨h7, h8⟩
    refine ⟨_, e1, _, e2, _, _, e3, _, _, e4, if_pos ⟨h3.1 ▸ h3.2, h4.1 ▸ h4.2, e5, h9, ?_⟩⟩
    simpa using h10

/-- The four bytes of a block read as the settings they spell for a binding (R68, R70, R169, R170). -/
theorem readAmendBlock_eq_some {ps : List Byte} {i : Nat} {b : Binding} {st : Settings} :
    readAmendBlock ps (3 + 4 * i) b = some st ↔ AmendBlockSpelled ps i b st := by
  obtain ⟨o2, o3⟩ := amendBlock_offsets i
  simp only [readAmendBlock, bind, Option.bind_eq_some_iff, Prod.exists, o2, o3]
  constructor
  · intro h
    obtain ⟨st', drive, h3, h⟩ := h
    split at h
    · rename_i hc
      obtain ⟨hd, hb, rfl, hf⟩ := hc
      injection h with h
      subst h
      obtain ⟨e1, e2, e3⟩ := readSettings_eq_some.1 h3
      have hs := settingsFit_iff.1 hf
      exact ⟨⟨e1, e1 ▸ hd⟩, ⟨e2, e2 ▸ hb⟩, e3, hs.1, hs.2⟩
    · cases h
  · rintro ⟨h1, h2, h3, h4, h5⟩
    exact ⟨_, _, readSettings_eq_some.2 ⟨h1.1, h2.1, h3⟩,
      if_pos ⟨h1.1 ▸ h1.2, h2.1 ▸ h2.2, rfl, settingsFit_iff.2 ⟨h4, h5⟩⟩⟩

/-! ## The blocks of a claim -/

/-- Blocks from index `i` on are spelled, after blocks that name the pins `earlier`. -/
def ClaimBlocksFrom (ps : List Byte) (earlier : List PinNo) (i : Nat) (xs : List ClaimBlock) : Prop :=
  ∀ j x, xs[j]? = some x → ClaimBlockSpelled ps (i + j) x ∧ (∀ p ∈ x.pins, p ∉ earlier)
    ∧ ∀ k y, k < j → xs[k]? = some y → ∀ p ∈ x.pins, p ∉ y.pins

theorem claimBlocksFrom_zero {ps : List Byte} {xs : List ClaimBlock} :
    ClaimBlocksFrom ps [] 0 xs ↔ ClaimBlocksSpelled ps xs := by
  simp [ClaimBlocksFrom, ClaimBlocksSpelled]

theorem claimBlocksFrom_nil (ps : List Byte) (earlier : List PinNo) (i : Nat) : ClaimBlocksFrom ps earlier i [] := by
  intro j x h
  simp at h

theorem claimBlocksFrom_cons {ps : List Byte} {earlier : List PinNo} {i : Nat} {b : ClaimBlock}
    {bs : List ClaimBlock} : ClaimBlocksFrom ps earlier i (b :: bs)
      ↔ (ClaimBlockSpelled ps i b ∧ ∀ p ∈ b.pins, p ∉ earlier)
        ∧ ClaimBlocksFrom ps (earlier ++ b.pins) (i + 1) bs := by
  constructor
  · intro h
    refine ⟨⟨(h 0 b rfl).1, (h 0 b rfl).2.1⟩, fun j x hx => ?_⟩
    obtain ⟨h1, h2, h3⟩ := h (j + 1) x (by simpa using hx)
    refine ⟨by rwa [show i + 1 + j = i + (j + 1) by omega], fun p hp => ?_, fun k y hk hy => ?_⟩
    · rw [List.mem_append]
      rintro (hq | hq)
      · exact h2 p hp hq
      · exact h3 0 b (by omega) rfl p hp hq
    · exact h3 (k + 1) y (by omega) (by simpa using hy)
  · rintro ⟨⟨h1, h2⟩, h3⟩ j x hx
    cases j with
    | zero =>
      obtain rfl : b = x := by simpa using hx
      exact ⟨h1, h2, fun k y hk => absurd hk (by omega)⟩
    | succ j =>
      obtain ⟨h4, h5, h6⟩ := h3 j x (by simpa using hx)
      refine ⟨by rwa [show i + (j + 1) = i + 1 + j by omega], fun p hp hq => ?_, fun k y hk hy p hp => ?_⟩
      · exact h5 p hp (List.mem_append.2 (.inl hq))
      · cases k with
        | zero =>
          obtain rfl : b = y := by simpa using hy
          exact fun hq => h5 p hp (List.mem_append.2 (.inr hq))
        | succ k => exact h6 k y (by omega) (by simpa using hy) p hp

/-- Spelled blocks are read. -/
theorem readClaimBlocks_ok {ps : List Byte} {earlier : List PinNo} {i : Nat} {xs : List ClaimBlock}
    (h : ClaimBlocksFrom ps earlier i xs) : readClaimBlocks ps earlier i xs.length = .ok xs := by
  induction xs generalizing earlier i with
  | nil => rfl
  | cons b bs ih =>
    obtain ⟨h1, h2⟩ := claimBlocksFrom_cons.1 h
    simp only [List.length_cons, readClaimBlocks, readClaimBlock_eq_some.2 h1, need_some, bind, Except.bind, ih h2]

/-- The blocks that are read are as many as asked for, and spelled. -/
theorem claimBlocksFrom_of_read {ps : List Byte} {earlier : List PinNo} {i n : Nat} {xs : List ClaimBlock}
    (h : readClaimBlocks ps earlier i n = .ok xs) : xs.length = n ∧ ClaimBlocksFrom ps earlier i xs := by
  induction n generalizing earlier i xs with
  | zero =>
    injection h with h
    subst h
    exact ⟨rfl, claimBlocksFrom_nil _ _ _⟩
  | succ n ih =>
    simp only [readClaimBlocks, bind, Except.bind] at h
    cases hb : readClaimBlock ps (7 + 7 * i) earlier with
    | none => simp [hb] at h
    | some b =>
      simp only [hb, need_some] at h
      split at h
      · cases h
      · rename_i bs hbs
        injection h with h
        subst h
        obtain ⟨h1, h2⟩ := ih hbs
        exact ⟨by simp [h1], claimBlocksFrom_cons.2 ⟨readClaimBlock_eq_some.1 hb, h2⟩⟩

/-- The first block that is not spelled refuses with its index (R27). -/
theorem readClaimBlocks_error {ps : List Byte} {earlier : List PinNo} {i n : Nat} {xs : List ClaimBlock}
    (h : ClaimBlocksFrom ps earlier i xs) (hn : xs.length < n)
    (hx : ∀ x, ¬ ClaimBlocksFrom ps earlier i (xs ++ [x])) :
    readClaimBlocks ps earlier i n = .error { status := .badArgument, detail := byte (i + xs.length) } := by
  induction xs generalizing earlier i n with
  | nil =>
    obtain ⟨n, rfl⟩ : ∃ m, n = m + 1 := ⟨n - 1, by simp at hn; omega⟩
    have : readClaimBlock ps (7 + 7 * i) earlier = none := by
      cases hr : readClaimBlock ps (7 + 7 * i) earlier with
      | none => rfl
      | some x =>
        exact absurd (claimBlocksFrom_cons.2 ⟨readClaimBlock_eq_some.1 hr, claimBlocksFrom_nil _ _ _⟩) (hx x)
    simp [readClaimBlocks, this, bind, Except.bind]
  | cons b bs ih =>
    obtain ⟨n, rfl⟩ : ∃ m, n = m + 1 := ⟨n - 1, by simp at hn; omega⟩
    obtain ⟨h1, h2⟩ := claimBlocksFrom_cons.1 h
    have h3 := ih (n := n) h2 (by simpa using hn) fun x hx' => hx x (claimBlocksFrom_cons.2 ⟨h1, hx'⟩)
    simp only [readClaimBlocks, readClaimBlock_eq_some.2 h1, need_some, bind, Except.bind, h3, List.length_cons]
    rw [show i + 1 + bs.length = i + (bs.length + 1) by omega]

/-! ## The request of a claim -/

theorem claimPeriodFits_iff {p : Nat} : claimPeriodFits p = true ↔ p = 0 ∨ (16 ≤ p ∧ p ≤ 4095) := by
  simp [claimPeriodFits]

theorem faultSet_ofNat {n : Nat} {x : FaultSet} (h : n = (if x.flt0 then 1 else 0) + if x.flt1 then 2 else 0) :
    FaultSet.ofNat n = some x := by
  subst h
  rcases x with ⟨_ | _, _ | _⟩ <;> rfl

theorem faultSet_ofNat_isSome {n : Nat} (h : n < 4) : ∃ x, FaultSet.ofNat n = some x := by
  simp [FaultSet.ofNat, h]

/-- A claim whose parameters spell a request is read as that request (R24 to R27). -/
theorem readClaim_ok {ps : List Byte} {q : ClaimRequest} (h : ClaimSpelled ps q) : readClaim ps = .ok q := by
  obtain ⟨⟨f1, f2, f3, f4, f5, f6, f7⟩, htb, hp, hpr, hsub, hc, hb⟩ := h
  have e1 := indexOf_eq_some.2 htb
  have e2 := claimPeriodFits_iff.2 f2
  have e3 := indexOf_eq_some.2 hpr
  have e4 := faultSet_ofNat hsub
  have e5 : (decide (1 ≤ arg ps 6) && decide (arg ps 6 ≤ 4) && arg ps 6 == (ps.length - 7) / 7) = true := by
    rw [f7]; simp [f5, f6]
  have e6 := readClaimBlocks_ok (claimBlocksFrom_zero.2 hb)
  rw [← hc] at e6
  simp only [readClaim, e1, e2, e3, e4, e5, e6, need_some, check_ok, bind, Except.bind]
  rw [hp]

/-- A claim that is read spells the request it is read as. -/
theorem claimSpelled_of_read {ps : List Byte} {q : ClaimRequest} (hl : ps.length ∈ Command.claim.lengths)
    (h : readClaim ps = .ok q) : ClaimSpelled ps q := by
  have hlen : 7 ≤ ps.length ∧ (ps.length - 7) % 7 = 0 := by
    simp only [Command.lengths, List.mem_cons, List.not_mem_nil, or_false] at hl
    omega
  simp only [readClaim, bind, Except.bind] at h
  repeat' split at h
  all_goals first | (cases h; done) | skip
  rename_i _ tb h1 _ _ h2 _ pr h3 _ sub h4 _ _ h5 _ bs h6
  injection h with h
  subst h
  have e1 := indexOf_eq_some.1 (need_eq_ok.1 h1)
  have e3 := indexOf_eq_some.1 (need_eq_ok.1 h3)
  have e4 := need_eq_ok.1 h4
  have e5 := check_eq_ok.1 h5
  simp only [Bool.and_eq_true, decide_eq_true_eq, beq_iff_eq] at e5
  obtain ⟨e6, e7⟩ := claimBlocksFrom_of_read h6
  have e8 : arg ps 5 < 4 ∧ arg ps 5 = (if sub.flt0 then 1 else 0) + if sub.flt1 then 2 else 0 := by
    unfold FaultSet.ofNat at e4
    split at e4
    · rename_i hlt
      refine ⟨hlt, ?_⟩
      injection e4 with e4
      subst e4
      generalize arg ps 5 = n at hlt
      interval_cases n <;> rfl
    · cases e4
  exact ⟨⟨e1 ▸ tb.isLt, claimPeriodFits_iff.1 (check_eq_ok.1 h2), e3 ▸ pr.isLt, e8.1, e5.1.1, e5.1.2, by omega⟩, e1, rfl, e3,
    e8.2, e6.symm, claimBlocksFrom_zero.1 e7⟩

/-- Reading the parameters of a claim answers the request they spell, and no other (R24 to R27, R170). -/
theorem readClaim_eq_ok {ps : List Byte} {q : ClaimRequest} (hl : ps.length ∈ Command.claim.lengths) :
    readClaim ps = .ok q ↔ ClaimSpelled ps q :=
  ⟨claimSpelled_of_read hl, readClaim_ok⟩

/-- A claim that spells no request is refused with BAD_ARGUMENT and the detail of its first fault (R26, R27). -/
theorem readClaim_error {ps : List Byte} {d : Byte} (hl : ps.length ∈ Command.claim.lengths)
    (h : ClaimMisspelled ps d) : readClaim ps = .error { status := .badArgument, detail := d } := by
  have hlen : 7 ≤ ps.length ∧ (ps.length - 7) % 7 = 0 := by
    simp only [Command.lengths, List.mem_cons, List.not_mem_nil, or_false] at hl
    omega
  have hcount : (arg ps 6 = (ps.length - 7) / 7) ↔ ps.length = 7 + 7 * arg ps 6 := by omega
  have hcond : (decide (1 ≤ arg ps 6) && decide (arg ps 6 ≤ 4) && arg ps 6 == (ps.length - 7) / 7) = true
      ↔ 1 ≤ arg ps 6 ∧ arg ps 6 ≤ 4 ∧ ps.length = 7 + 7 * arg ps 6 := by
    simp [hcount, and_assoc]
  by_cases f1 : arg ps 1 < 4
  swap
  · rcases h with ⟨-, rfl⟩ | ⟨hf, -⟩
    · simp [readClaim, indexOf, f1, bind, Except.bind]
    · exact absurd hf.1 f1
  by_cases f2 : claimPeriodFits (arg2 ps 2) = true
  swap
  · rcases h with ⟨-, rfl⟩ | ⟨hf, -⟩
    · rw [Bool.not_eq_true] at f2
      simp [readClaim, indexOf, f1, f2, bind, Except.bind]
    · exact absurd (claimPeriodFits_iff.2 hf.2.1) f2
  by_cases f3 : arg ps 4 < 8
  swap
  · rcases h with ⟨-, rfl⟩ | ⟨hf, -⟩
    · simp [readClaim, indexOf, f1, f2, f3, bind, Except.bind]
    · exact absurd hf.2.2.1 f3
  by_cases f4 : arg ps 5 < 4
  swap
  · rcases h with ⟨-, rfl⟩ | ⟨hf, -⟩
    · simp [readClaim, indexOf, f1, f2, f3, f4, FaultSet.ofNat, bind, Except.bind]
    · exact absurd hf.2.2.2.1 f4
  obtain ⟨x, hx⟩ := faultSet_ofNat_isSome f4
  by_cases f5 : (decide (1 ≤ arg ps 6) && decide (arg ps 6 ≤ 4) && arg ps 6 == (ps.length - 7) / 7) = true
  swap
  · rcases h with ⟨-, rfl⟩ | ⟨hf, -⟩
    · rw [Bool.not_eq_true] at f5
      simp only [readClaim, indexOf, f1, f2, f3, hx, f5, bind, Except.bind, dite_true, need_some, check_ok,
        check_error]
    · exact absurd (hcond.2 hf.2.2.2.2) f5
  rcases h with ⟨hf, -⟩ | ⟨-, xs, hn, hs, hnone, rfl⟩
  · exact absurd ⟨f1, claimPeriodFits_iff.1 f2, f3, f4, hcond.1 f5⟩ hf
  · have e6 := readClaimBlocks_error (claimBlocksFrom_zero.2 hs) hn
      fun x hx => hnone x (claimBlocksFrom_zero.1 hx)
    simp only [readClaim, indexOf, f1, f2, f3, hx, f5, bind, Except.bind, dite_true, need_some, check_ok, e6,
      Nat.zero_add]

/-! ## The settings of an amend -/

/-- Amend blocks from index `i` on spell settings for bindings. -/
def AmendBlocksFrom (ps : List Byte) (i : Nat) (bs : List Binding) (sts : List Settings) : Prop :=
  ∀ j st, sts[j]? = some st → ∃ b, bs[j]? = some b ∧ AmendBlockSpelled ps (i + j) b st

theorem amendBlocksFrom_zero {ps : List Byte} {bs : List Binding} {sts : List Settings} :
    AmendBlocksFrom ps 0 bs sts ↔ AmendSpelled ps bs sts := by
  simp [AmendBlocksFrom, AmendSpelled]

theorem amendBlocksFrom_cons {ps : List Byte} {i : Nat} {b : Binding} {bs : List Binding} {st : Settings}
    {sts : List Settings} : AmendBlocksFrom ps i (b :: bs) (st :: sts)
      ↔ AmendBlockSpelled ps i b st ∧ AmendBlocksFrom ps (i + 1) bs sts := by
  constructor
  · intro h
    refine ⟨?_, fun j x hx => ?_⟩
    · obtain ⟨b', hb, hs⟩ := h 0 st rfl
      obtain rfl : b = b' := by simpa using hb
      exact hs
    · obtain ⟨b', hb, hs⟩ := h (j + 1) x (by simpa using hx)
      exact ⟨b', by simpa using hb, by rwa [show i + 1 + j = i + (j + 1) by omega]⟩
  · rintro ⟨h1, h2⟩ j x hx
    cases j with
    | zero =>
      obtain rfl : st = x := by simpa using hx
      exact ⟨b, rfl, h1⟩
    | succ j =>
      obtain ⟨b', hb, hs⟩ := h2 j x (by simpa using hx)
      exact ⟨b', by simpa using hb, by rwa [show i + (j + 1) = i + 1 + j by omega]⟩

/-- Spelled amend blocks are read. -/
theorem readAmendBlocks_ok {ps : List Byte} {i : Nat} {bs : List Binding} {sts : List Settings}
    (hl : sts.length = bs.length) (h : AmendBlocksFrom ps i bs sts) : readAmendBlocks ps i bs = .ok sts := by
  induction bs generalizing i sts with
  | nil =>
    obtain rfl : sts = [] := by simpa using hl
    rfl
  | cons b bs ih =>
    cases sts with
    | nil => simp at hl
    | cons st sts =>
      obtain ⟨h1, h2⟩ := amendBlocksFrom_cons.1 h
      simp only [readAmendBlocks, readAmendBlock_eq_some.2 h1, need_some, bind, Except.bind,
        ih (by simpa using hl) h2]

/-- The settings that are read are as many as the bindings, and spelled. -/
theorem amendBlocksFrom_of_read {ps : List Byte} {i : Nat} {bs : List Binding} {sts : List Settings}
    (h : readAmendBlocks ps i bs = .ok sts) : sts.length = bs.length ∧ AmendBlocksFrom ps i bs sts := by
  induction bs generalizing i sts with
  | nil =>
    injection h with h
    subst h
    exact ⟨rfl, fun j x h => by simp at h⟩
  | cons b bs ih =>
    simp only [readAmendBlocks, bind, Except.bind] at h
    cases hb : readAmendBlock ps (3 + 4 * i) b with
    | none => simp [hb] at h
    | some st =>
      simp only [hb, need_some] at h
      split at h
      · cases h
      · rename_i xs hxs
        injection h with h
        subst h
        obtain ⟨h1, h2⟩ := ih hxs
        exact ⟨by simp [h1], amendBlocksFrom_cons.2 ⟨readAmendBlock_eq_some.1 hb, h2⟩⟩

/-- Reading the blocks of an amend answers the settings they spell, one for each binding (R68, R70, R170). -/
theorem readAmendBlocks_eq_ok {ps : List Byte} {bs : List Binding} {sts : List Settings} :
    readAmendBlocks ps 0 bs = .ok sts ↔ sts.length = bs.length ∧ AmendSpelled ps bs sts := by
  rw [← amendBlocksFrom_zero]
  exact ⟨amendBlocksFrom_of_read, fun h => readAmendBlocks_ok h.1 h.2⟩

/-- The first amend block that is not spelled refuses with its index (R70). -/
theorem readAmendBlocks_error {ps : List Byte} {i : Nat} {bs : List Binding} {sts : List Settings}
    (hl : sts.length < bs.length) (h : AmendBlocksFrom ps i bs sts)
    (hx : ∀ st, ¬ AmendBlocksFrom ps i bs (sts ++ [st])) :
    readAmendBlocks ps i bs = .error { status := .badArgument, detail := byte (i + sts.length) } := by
  induction bs generalizing i sts with
  | nil => simp at hl
  | cons b bs ih =>
    cases sts with
    | nil =>
      have : readAmendBlock ps (3 + 4 * i) b = none := by
        cases hr : readAmendBlock ps (3 + 4 * i) b with
        | none => rfl
        | some x =>
          exact absurd (amendBlocksFrom_cons.2 ⟨readAmendBlock_eq_some.1 hr, fun j x h => by simp at h⟩) (hx x)
      simp [readAmendBlocks, this, bind, Except.bind]
    | cons st sts =>
      obtain ⟨h1, h2⟩ := amendBlocksFrom_cons.1 h
      have h3 := ih (by simpa using hl) h2 fun x hx' => hx x (amendBlocksFrom_cons.2 ⟨h1, hx'⟩)
      simp only [readAmendBlocks, readAmendBlock_eq_some.2 h1, need_some, bind, Except.bind, h3, List.length_cons]
      rw [show i + 1 + sts.length = i + (sts.length + 1) by omega]

/-! ## Checks in binding-index order -/

theorem firstFailing_eq_some {α : Type} {ok : α → Bool} {P : α → Prop} (hp : ∀ x, ok x = true ↔ P x)
    {xs : List α} {i : Nat} (k : Nat) (h : FirstFailing P xs i) : firstFailing ok k xs = some (k + i) := by
  induction xs generalizing i k with
  | nil => obtain ⟨⟨x, hx, -⟩, -⟩ := h; simp at hx
  | cons y ys ih =>
    cases i with
    | zero =>
      obtain ⟨⟨x, hx, hn⟩, -⟩ := h
      obtain rfl : y = x := by simpa using hx
      simp [firstFailing, mt (hp y).1 hn]
    | succ i =>
      obtain ⟨⟨x, hx, hn⟩, hb⟩ := h
      have hy := (hp y).2 (hb 0 y (by omega) rfl)
      rw [firstFailing, if_pos hy, ih (k + 1) ⟨⟨x, by simpa using hx, hn⟩, fun j z hj hz =>
        hb (j + 1) z (by omega) (by simpa using hz)⟩]
      congr 1; omega

theorem firstFailing_eq_none {α : Type} {ok : α → Bool} {P : α → Prop} (hp : ∀ x, ok x = true ↔ P x)
    {xs : List α} (k : Nat) (h : ∀ x ∈ xs, P x) : firstFailing ok k xs = none := by
  induction xs generalizing k with
  | nil => rfl
  | cons y ys ih =>
    rw [firstFailing, if_pos ((hp y).2 (h y (by simp))), ih (k + 1) fun x hx => h x (by simp [hx])]

theorem checkEach_error {α : Type} {ok : α → Bool} {P : α → Prop} (hp : ∀ x, ok x = true ↔ P x)
    {xs : List α} {i : Nat} (h : FirstFailing P xs i) (status : Status) :
    checkEach ok xs status = .error { status := status, detail := byte i } := by
  simp [checkEach, firstFailing_eq_some hp 0 h]

theorem checkEach_ok {α : Type} {ok : α → Bool} {P : α → Prop} (hp : ∀ x, ok x = true ↔ P x)
    {xs : List α} (h : ∀ x ∈ xs, P x) (status : Status) : checkEach ok xs status = .ok () := by
  simp [checkEach, firstFailing_eq_none hp 0 h]

theorem safePairFits_iff {p : Polarity} {a b : Level} : safePairFits p a b = true ↔ SafeLevelsPass p a b := by
  cases p <;> cases a <;> cases b <;> simp [safePairFits, SafeLevelsPass, Polarity.shownActive, Polarity.activeLevel]

theorem State.gateRunning_iff (s : State) {st : Settings} : s.gateRunning st.gate = true ↔ s.GatePasses st := by
  unfold State.gateRunning State.GatePasses
  cases st.gate <;> simp

end Sys2Proof.Machine
end

