-- ==== Sys2Proof/WellFormed.lean ====
section
/-! DEFINITION. Which commands are well formed: a transaction row's first byte is of its kind (R153), and
a supply level is one the part can stand at (R106, R172). The ranges of numbers are in their types. -/

namespace Sys2Proof

/-- The first byte a moment carries, where it carries one. -/
def Moment.firstByte : Moment → Option Byte
  | .whole b _ => some b
  | .first b => some b
  | .select => none
  | .more _ => none
  | .rise => none

/-- A first byte, where one is carried, selects the row's own kind of transaction (R153). -/
def Moment.ofRow (row : TransactionRow) (m : Moment) : Bool :=
  match m.firstByte with
  | none => true
  | some b => transactionRow b = row

/-- A reset cause is one of R106 and R172: a supply below the power-on level. -/
def ResetCause.wellFormed : ResetCause → Bool
  | .rstn _ => true
  | .powerOn => true
  | .supply mv => mv < Config.powerOnMv

/-- Well-formed commands. An IGNORED_TRANSACTION may carry any first byte, since a transaction that falls
while a full reset is held is ignored whatever it carries (R153). -/
def Instr.wellFormed : Instr → Bool
  | .commandFrame _ m => m.ofRow .frame
  | .fetch _ m => m.ofRow .fetch
  | .clearLink _ m => m.ofRow .clear
  | .ignoredTransaction _ _ => true
  | .supplyFall mv => mv ≤ Config.supplyMaxMv
  | .supplyRise mv => mv ≤ Config.supplyMaxMv
  | .fullReset cause => cause.wellFormed
  | .openSession | .renew | .closeSession | .claim | .amend | .retire | .clearTrip | .retune | .adopt
  | .readNotices | .readFaults | .querySession | .queryLease | .queryTimebase | .findByPin | .listLeases
  | .setPinRest | .setCarrier | .setFaultEdge | .setSupplyLevel | .haltAll | .releaseHalt
  | .badCommand => true
  | .count _ | .boundary _ | .startBoundary _ | .carrierEdge _ | .tick _ | .lapse _ | .holdExpiry _
  | .faultInputChange _ _ | .faultEdge _ | .faultRelease _ | .resetRelease => true

end Sys2Proof
end

