-- ==== Sys2Proof/Tests/Slice0.lean ====
section
/-! SUPPORT. Tests of single commands on small states, with expected results from the manual's rules and examples, and
one witness for each statement with hypotheses: a concrete state and operands that meet all of them together. -/

open Sys2Proof Sys2Proof.Machine

namespace Sys2Proof.Tests

/-! ## Small states -/

/-- A view of the next state a command answers. -/
def answer {α : Type} (r : Result) (f : State → α) : Option α :=
  match r with
  | .next s => some (f s)
  | .fault _ => none
  | .refused _ => none

/-- Every notice kind. -/
def allKinds : KindSet :=
  { started := true, committed := true, retuned := true, tripped := true, retired := true, adopted := true }

/-- A session record with interval 5, every kind in its mask and no notice. -/
def record (cls : SessionClass) (l : Link) (status : SessionStatus) (quota : Nat) : SessionRecord :=
  { cls := cls, link := l, interval := 5, status := status, quota := quota, mask := allKinds,
    notices := Vector.replicate 16 KindSet.empty }

/-- S0 is ORDINARY on Link A with quota 2, in a given status; S1 is the SUPERVISOR on Link B. -/
def hallWith (status : SessionStatus) : State :=
  { State.reset with
    sessions := putAt (putAt (Vector.replicate 8 none) 0 (some (record .ordinary .a status 2)))
      1 (some (record .supervisor .b (.opened 3) 16)) }

/-- Both sessions OPEN. -/
def hall : State := hallWith (.opened 3)

/-- A command of codes and parameters waits in a link's slot. -/
def asks (s : State) (l : Link) (c : Command) (ps : List Nat) : State :=
  (s.setLink l { s.link l with slot := .queued { code := c.code, params := ps.map byte } }).refresh

/-- Settings of a single binding: ACTIVE_HIGH, no gate. -/
def plain (duty : Nat) : Settings :=
  { duty := duty, polarity := .activeHigh, deadBand := 0, gate := none, mode := .mark }

/-- One single binding on CH0 and P0, safe level LOW. -/
def single (duty : Nat) : Binding :=
  { channel := 0, pin := 0, active := plain duty, drive := .pushPull, safe := .low, complement := none }

/-- The place of the primary half of L0's binding. -/
def place0 : Place := { lease := 0, index := 0, role := .primary }

/-- L0 with one binding on TB0, subscribed to FLT0, generation 255. -/
def lease0 (holder : SessionNo) (duty : Nat) (ph : Phase) : LeaseRecord :=
  { holder := holder, timebase := 0, subscription := { flt0 := true, flt1 := false },
    bindings := [single duty], generation := 255, phase := ph }

/-- TB0 with period 20, prescale code 2, L0 its holder and only lease. -/
def tb0 (counter : Nat) (staged : Option Nat) : Timebase :=
  { prescale := 2, counter := counter, refCount := 1,
    run := some { period := 20, staged := staged, holder := 0, startPending := false } }

/-- L0 in a phase, with its channel, engine and pin and its timebase at a counter value, on a hall. -/
def leasedOn (h : State) (holder : SessionNo) (duty : Nat) (ph : Phase) (stage : Option Settings) (counter : Nat)
    (staged : Option Nat) : State :=
  { h with
    leases := putAt (Vector.replicate 16 none) 0 (some (lease0 holder duty ph))
    channels := putAt (Vector.replicate 12 none) 0 (some place0)
    engines := putAt (Vector.replicate 12 .unused) 0
      (if ph.showsSafe then .held { place := place0, active := plain duty, staged := stage }
       else .generating { place := place0, active := plain duty, staged := stage } none
          { inWindow := true, carrier := none })
    pins := putAt (Vector.replicate 24 PinEntry.reset) 0
      { owner := some { place := place0, drive := .pushPull }, rest := .float, level := .low }
    timebases := putAt (Vector.replicate 4 Timebase.reset) 0 (tb0 counter staged) }

/-- L0 of S0 in a phase, duty 8, TB0 at counter 0. -/
def leased (ph : Phase) (stage : Option Settings) : State := leasedOn hall 0 8 ph stage 0 none

/-- L0 of S0 RUNNING. -/
def running : State := leased .running none

/-- A state with a command waiting in the queue and its outputs up to date. -/
def queued (s : State) (c : Instr) : State := ({ s with pending := [c] }).refresh

theorem settled_asks (s : State) (l : Link) (c : Command) (ps : List Nat) : (asks s l c ps).Settled :=
  State.settled_refresh _

theorem settled_queued (s : State) (c : Instr) : (queued s c).Settled := State.settled_refresh _

/-- Reading one lease of a table that holds one at L0. -/
theorem leaseHas_first {p : LeaseRecord → Prop} {r : LeaseRecord} (h : p r) (n : LeaseNo) :
    leaseHas (putAt (Vector.replicate 16 none) 0 (some r))[n] p := by
  by_cases hn : n = 0
  · subst hn; rw [putAt_self]; exact h
  · rw [putAt_other _ _ hn]; simp [leaseHas]

theorem leases_leasedOn (h : State) (holder : SessionNo) (duty : Nat) (ph : Phase) (stage : Option Settings)
    (counter : Nat) (staged : Option Nat) : (leasedOn h holder duty ph stage counter staged).leases
      = putAt (Vector.replicate 16 none) 0 (some (lease0 holder duty ph)) := by
  simp only [leasedOn]

theorem leases_running : running.leases = putAt (Vector.replicate 16 none) 0 (some (lease0 0 8 .running)) := by
  rw [running, leased, leases_leasedOn]

theorem leases_asks (s : State) (l : Link) (c : Command) (ps : List Nat) : (asks s l c ps).leases = s.leases := by
  simp only [asks, State.refresh_leases, State.setLink_leases]

theorem leases_queued (s : State) (c : Instr) : (queued s c).leases = s.leases := by
  simp only [queued, State.refresh_leases]

/-- L0 AMEND_PENDING with a staged duty of 5. -/
def amending : State := leased (.amendPending [plain 5]) (some (plain 5))

/-! ## Well-formed commands: one ill-formed term for each check -/

theorem test_frame_needs_code : (Instr.commandFrame .a (.first 0x80)).wellFormed = false := by decide
theorem test_frame_code_range : (Instr.commandFrame .b (.whole 0x3F [])).wellFormed = true
    ∧ (Instr.commandFrame .b (.whole 0x40 [])).wellFormed = false
    ∧ (Instr.commandFrame .b (.whole 0x00 [])).wellFormed = false := by decide
theorem test_fetch_needs_80h : (Instr.fetch .a (.whole 0x81 [])).wellFormed = false := by decide
theorem test_clear_needs_C0h : (Instr.clearLink .a (.first 0x80)).wellFormed = false := by decide
theorem test_fall_above_range : (Instr.supplyFall 5501).wellFormed = false := by decide
theorem test_rise_above_range : (Instr.supplyRise 5501).wellFormed = false := by decide
theorem test_reset_by_high_supply : (Instr.fullReset (.supply 2750)).wellFormed = false := by decide
theorem test_no_word_spells_a_command : decodeTableWord 8 0x80 = none := by decide
theorem test_withFetchWord_adds_none : (State.reset.withFetchWord 8 0x80).pending = [] := by decide

/-! ## Windows and levels -/

/-- R92's example: duty 8, dead band 2, period 20 gives the complement window 10 to 17. -/
theorem test_complement_window :
    complementEdges { plain 8 with deadBand := 2 } 20 = { lower := 10, upper := 17 }
      ∧ ([19, 18, 17, 10, 9, 8].map fun c => inComplementWindow c { lower := 10, upper := 17 })
        = [false, false, true, true, false, false] := by decide

/-- R89: a duty of 8 places the window on counter values 7 down to 0. -/
theorem test_primary_window : inPrimaryWindow 7 8 = true ∧ inPrimaryWindow 8 8 = false := by decide

/-- R90: under OPEN_DRAIN a HIGH level is shown by releasing the pin. -/
theorem test_open_drain_high : driveOf .openDrain .high = .released ∧ driveOf .openDrain .low = .low := by decide

/-- R168 and R169: a settings byte of 15h is gate CA, SPACE, ACTIVE_HIGH, OPEN_DRAIN; bit 5 is no code. -/
theorem test_settings_byte : readSettings 8 0 0x15
      = some ({ plain 8 with gate := some .ca, mode := .space }, .openDrain)
    ∧ readSettings 8 0 0x20 = none ∧ readSettings 8 0 0x03 = none := by decide

/-! ## Sessions and notices -/

/-- R126: the lowest FREE record is S2. -/
theorem test_openSession_takes_lowest :
    answer (exec .openSession (asks hall .b .openSession [0, 5, 2, 0x3F]))
      (fun s => (s.sessions[2], (s.link .b).slot))
      = some (some (record .ordinary .b (.opened 5) 2), .done (goodResponse [2, 0, 1, 5, 2, 0x3F])) := by decide

/-- R125: step 2 comes before step 3. -/
theorem test_openSession_supervisor_refusals :
    answer (exec .openSession (asks hall .b .openSession [1, 5, 2, 0])) (fun s => (s.link .b).slot)
        = some (.done { status := .supervisorExists, detail := 1, data := [] })
      ∧ answer (exec .openSession (asks hall .a .openSession [1, 5, 2, 0])) (fun s => (s.link .a).slot)
        = some (.done { status := .wrongLink, detail := 0, data := [] }) := by decide

/-- R129. -/
theorem test_renew :
    answer (exec .renew (asks running .a .renew [0])) (fun s => ((s.link .a).slot, s.sessions[0].map (·.status)))
      = some (.done (goodResponse [0, 5, 1]), some (.opened 5)) := by decide

/-- R65, R96, R135: the last lease gone, TB0 is IDLE with its prescale kept and P0 shows its rest level. -/
theorem test_closeSession :
    answer (exec .closeSession (asks running .a .closeSession [0]))
      (fun s => (s.sessions[0], s.leases[0], s.timebases[0], s.pins[0], (s.link .a).slot))
      = some (none, none, { prescale := 2, counter := 0, refCount := 0, run := none }, PinEntry.reset,
          .done (goodResponse [0, 1])) := by decide

/-- R138: the lapsed session gets ADOPTED and the supervisor the lease. -/
theorem test_adopt :
    answer (exec .adopt (asks (leasedOn (hallWith (.lapsed 9)) 0 8 .running none 0 none) .b .adopt [1, 0]))
      (fun s => (s.leases[0].map (·.holder), s.sessions[0].map (·.notices[0].toByte), (s.link .b).slot))
      = some (some 1, some 0x20, .done (goodResponse [0, 2, 0, 0, 1])) := by decide

/-- R137: a lease whose holder is OPEN gives WRONG_STATE with its own state code. -/
theorem test_adopt_open_holder :
    answer (exec .adopt (asks running .b .adopt [1, 0])) (fun s => (s.link .b).slot)
      = some (.done { status := .wrongState, detail := 2, data := [] }) := by decide

/-- A hall whose S0 has unread notices for L3 (RETIRED) and L0 (STARTED and TRIPPED). -/
def noticed : State :=
  { hall with
    sessions := putAt hall.sessions 0 (some { record .ordinary .a (.opened 3) 2 with
      notices := putAt (putAt (Vector.replicate 16 KindSet.empty) 3 { KindSet.empty with retired := true })
        0 { KindSet.empty with started := true, tripped := true } }) }

/-- R149: entries in lease order, and the set is empty after. -/
theorem test_readNotices :
    answer (exec .readNotices (asks noticed .a .readNotices [0]))
      (fun s => ((s.link .a).slot, s.sessions[0].map (·.noticeCount)))
      = some (.done (goodResponse [2, 0, 0x09, 3, 0x10]), some 0) := by decide

/-- R142: a LAPSED subject reports its hold, 300 ticks. -/
theorem test_querySession :
    answer (exec .querySession (asks (hallWith (.lapsed 300)) .b .querySession [1, 0])) (fun s => (s.link .b).slot)
      = some (.done (goodResponse [0, 2, 0, 0, 5, 0, 1, 44, 2, 0, 0x3F, 0])) := by decide

/-- R130, R131: at the tick that brings the time to 0 the session lapses, with a hold of four intervals. -/
theorem test_tick_lapses :
    answer (exec (.tick none) (leasedOn (hallWith (.opened 1)) 0 8 .running none 0 none))
      (fun s => (s.sessions[0].map (·.status), s.leases[0].map (·.phase), s.sessions[1].map (·.status)))
      = some (some (.lapsed 20), some (.tripped { SourceSet.empty with lapse := true } false),
          some (.opened 2)) := by decide

/-- R134: hold expiry frees the session and its lease. -/
theorem test_holdExpiry :
    answer (exec (.holdExpiry 0) (leasedOn (hallWith (.lapsed 1)) 0 8 .running none 0 none))
      (fun s => (s.sessions[0], s.leases[0])) = some (none, none) := by decide

/-- R131: TRIPPED is recorded in the session's own set. -/
theorem test_lapse :
    answer (exec (.lapse 0) (leasedOn (hallWith (.opened 1)) 0 8 (.draining .atBoundary) none 0 none))
      (fun s => (s.leases[0].map (·.phase), s.sessions[0].map (·.notices[0].toByte)))
      = some (some (.tripped { SourceSet.empty with lapse := true } true), some 0x08) := by decide

/-! ## Claims and leases -/

/-- R37 to R41: a claim of P5 at period 20 on IDLE TB0, prescale code 2, subscribed to FLT0. -/
theorem test_claim_starts :
    answer (exec .claim (asks hall .a .claim [0, 0, 0, 20, 2, 1, 1, 5, 255, 0, 8, 0, 0, 0]))
      (fun s => ((s.link .a).slot, s.timebases[0], s.pins[5].level))
      = some (.done (goodResponse [0, 1, 1, 0, 20, 1, 0, 255]),
          { prescale := 2, counter := 0, refCount := 1,
            run := some { period := 20, staged := none, holder := 0, startPending := true } }, .low) := by decide

/-- R35: the complementary binding takes the pair CH0 and CH1, and the single binding before it CH2. -/
theorem test_claim_pairs_first :
    answer (exec .claim (asks hall .a .claim
        [0, 0, 0, 20, 2, 0, 2, 5, 255, 0, 8, 0, 0, 0, 6, 7, 0, 8, 2, 0, 0]))
      (fun s => s.leases[0].map fun r => r.bindings.map fun b => (b.channel, b.complement.map (·.channel)))
      = some (some [(2, none), (0, some 1)]) := by decide

/-- R69: a duty equal to the coming period is accepted (R71), and one above it refused. -/
theorem test_amend_duty_limit :
    answer (exec .amend (asks running .a .amend [0, 0, 1, 0, 20, 0, 0])) (fun s => (s.link .a).slot)
        = some (.done (goodResponse [0, 3, 255, 0, 20]))
      ∧ answer (exec .amend (asks running .a .amend [0, 0, 1, 0, 21, 0, 0])) (fun s => (s.link .a).slot)
        = some (.done { status := .dutyRange, detail := 0, data := [] }) := by decide

/-- R13: the supervisor may retire another session's lease; R80: the lease drains. -/
theorem test_retire_ramp_by_supervisor :
    answer (exec .retire (asks running .b .retire [1, 0, 2, 3]))
      (fun s => (s.leases[0].map (·.phase), (s.link .b).slot))
      = some (some (.draining (.ramp 3)), .done (goodResponse [0, 4, 2, 3])) := by decide

/-- R12: authority before state, and FFh for a FREE lease. -/
theorem test_retire_free_lease :
    answer (exec .retire (asks hall .a .retire [0, 4, 0, 0])) (fun s => (s.link .a).slot)
        = some (.done { status := .notHolder, detail := 0xFF, data := [] })
      ∧ answer (exec .retire (asks hall .b .retire [1, 4, 0, 0])) (fun s => (s.link .b).slot)
        = some (.done { status := .wrongState, detail := 0, data := [] }) := by decide

/-- R19: the record of a RUNNING lease in the ACTIVE view. -/
theorem test_queryLease :
    answer (exec .queryLease (asks running .a .queryLease [0, 0, 0])) (fun s => (s.link .a).slot)
      = some (.done (goodResponse
          [0, 2, 0, 0, 1, 1, 255, 255, 0, 0, 0, 0, 255, 0, 255, 0, 8, 0, 0, 12])) := by decide

/-- R22: P0 is owned by L0 and in window at counter 0. -/
theorem test_findByPin :
    answer (exec .findByPin (asks running .a .findByPin [0, 0])) (fun s => (s.link .a).slot)
      = some (.done (goodResponse [0, 0, 0, 0, 1, 2])) := by decide

/-- R21. -/
theorem test_listLeases :
    answer (exec .listLeases (asks running .b .listLeases [1, 0])) (fun s => (s.link .b).slot)
      = some (.done (goodResponse [0, 1, 0, 2])) := by decide

/-! ## Timebases -/

/-- R50: the count after 0 is a boundary, which loads the period less one. -/
theorem test_count :
    answer (exec (.count 0) (leasedOn hall 0 8 .running none 8 none)) (fun s => (s.timebases[0].counter, s.pins[0].level))
        = some (7, .high)
      ∧ answer (exec (.count 0) running) (fun s => (s.timebases[0].counter, s.pins[0].level))
        = some (19, .low) := by decide

/-- R5, R55: the commit raises the generation, which wraps from 255 to 0. -/
theorem test_boundary_commits :
    answer (exec (.boundary 0) (leased (.amendPending [plain 5]) (some (plain 5))))
      (fun s => (s.leases[0].map fun r => (r.phase, r.generation, r.bindings.map (·.active.duty)),
        s.sessions[0].map (·.notices[0].toByte)))
      = some (some (.running, 0, [5]), some 0x02) := by decide

/-- R53: a staged period comes into force and RETUNED is recorded. -/
theorem test_boundary_retunes :
    answer (exec (.boundary 0) (leasedOn hall 0 8 .running none 0 (some 30)))
      (fun s => (s.timebases[0], s.sessions[0].map (·.notices[0].toByte)))
      = some ({ tb0 29 none with run := some { period := 30, staged := none, holder := 0, startPending := false } },
          some 0x04) := by decide

/-- R57: duty 8 under step 5 passes 3, and a ramp whose duties are all 0 is freed with RETIRED. -/
theorem test_boundary_ramps :
    answer (exec (.boundary 0) (leased (.draining (.ramp 5)) none))
        (fun s => s.leases[0].map fun r => r.bindings.map (·.active.duty)) = some (some [3])
      ∧ answer (exec (.boundary 0) (leasedOn hall 0 0 (.draining (.ramp 5)) none 0 none))
        (fun s => (s.leases[0], s.sessions[0].map (·.notices[0].toByte))) = some (none, some 0x10) := by decide

/-- R51, R54: the start boundary clears start pending and starts the ARMED lease. -/
theorem test_startBoundary :
    answer (exec (.startBoundary 0) { leased .armed none with
        timebases := putAt (Vector.replicate 4 Timebase.reset) 0 { tb0 0 none with
          run := some { period := 20, staged := none, holder := 0, startPending := true } } })
      (fun s => (s.timebases[0], s.leases[0].map (·.phase))) = some (tb0 19 none, some .running) := by decide

/-- R63, R61. -/
theorem test_retune :
    answer (exec .retune (asks running .a .retune [0, 0, 0x0F, 0xFF])) (fun s => ((s.link .a).slot, s.timebases[0]))
        = some (.done (goodResponse [0, 0, 20, 0x0F, 0xFF]), tb0 0 (some 4095))
      ∧ answer (exec .retune (asks hall .a .retune [0, 0, 0, 30])) (fun s => (s.link .a).slot)
        = some (.done { status := .notPeriodHolder, detail := 0xFF, data := [] }) := by decide

/-- R66. -/
theorem test_queryTimebase :
    answer (exec .queryTimebase (asks running .a .queryTimebase [0, 0])) (fun s => (s.link .a).slot)
      = some (.done (goodResponse [0, 1, 2, 0, 20, 0xFF, 0xFF, 0, 0, 0, 1])) := by decide

/-! ## Trips -/

/-- FLT0 pulled LOW by the board, its filter still running. -/
def pulled (s : State) : State := s.setInput .flt0 { s.trip.flt0 with level := .low }

/-- R104: the input moves and the seen level does not. -/
theorem test_faultInputChange :
    answer (exec (.faultInputChange .flt0 .low) running) (fun s => s.trip.flt0)
      = some { edge := .falling, level := .low, seen := .high, asserted := false, latch := false } := by decide

/-- R105, R111: the edge trips the subscribed lease, and its pin goes to the safe level. -/
theorem test_faultEdge_trips :
    answer (exec (.faultEdge .flt0) (pulled running))
      (fun s => (s.trip.flt0.latch, s.leases[0].map (·.phase), s.pins[0].level))
      = some (true, some (.tripped { SourceSet.empty with flt0 := true } false), .low) := by decide

/-- R105: the latch keeps its value through a release. -/
theorem test_faultRelease :
    answer (exec (.faultRelease .flt0) (running.setInput .flt0
        { edge := .falling, level := .high, seen := .low, asserted := true, latch := true }))
      (fun s => s.trip.flt0)
      = some { edge := .falling, level := .high, seen := .high, asserted := false, latch := true } := by decide

/-- R114, R115: LAPSE goes whenever CLEAR TRIP is taken, and the lease is ARMED. -/
theorem test_clearTrip :
    answer (exec .clearTrip (asks (leased (.tripped { SourceSet.empty with lapse := true } false) none) .a .clearTrip
        [0, 0])) (fun s => ((s.link .a).slot, s.leases[0].map (·.phase)))
      = some (.done (goodResponse [0, 1, 0x10, 0]), some .armed) := by decide

/-- R115: a cause whose latch is set stays, and the answer is FAULT_ACTIVE with data. -/
theorem test_clearTrip_latched :
    answer (exec .clearTrip (asks { leased (.tripped { SourceSet.empty with halt := true } true) none with
        trip := { State.reset.trip with haltLatch := true } } .b .clearTrip [1, 0])) (fun s => (s.link .b).slot)
      = some (.done { status := .faultActive, detail := 0x08, data := [0, 5, 0, 0x08] }) := by decide

/-- R118: READ FAULTS leaves the latch of an asserted source. -/
theorem test_readFaults :
    answer (exec .readFaults (asks (hall.setInput .flt0
        { edge := .falling, level := .low, seen := .low, asserted := true, latch := true }) .a .readFaults [0, 7]))
      (fun s => (s.link .a).slot) = some (.done (goodResponse [1, 1, 1, 0, 0])) := by decide

/-- R108, R109. -/
theorem test_haltAll :
    answer (exec .haltAll (asks running .b .haltAll [1])) (fun s => ((s.link .b).slot, s.trip.haltLatch))
        = some (.done (goodResponse [0, 1]), true)
      ∧ answer (exec .haltAll (asks running .a .haltAll [0])) (fun s => (s.link .a).slot)
        = some (.done { status := .notSupervisor, detail := 0, data := [] }) := by decide

theorem test_releaseHalt :
    answer (exec .releaseHalt (asks { leased (.tripped { SourceSet.empty with halt := true } false) none with
        trip := { State.reset.trip with haltLatch := true } } .b .releaseHalt [1]))
      (fun s => ((s.link .b).slot, s.trip.haltLatch)) = some (.done (goodResponse [1, 1]), false) := by decide

/-- R120: RISING on an input seen HIGH finds it asserted and sets its latch. -/
theorem test_setFaultEdge :
    answer (exec .setFaultEdge (asks hall .b .setFaultEdge [1, 0, 1])) (fun s => (s.link .b).slot)
        = some (.done (goodResponse [0, 1, 1, 1]))
      ∧ answer (exec .setFaultEdge (asks running .b .setFaultEdge [1, 0, 1])) (fun s => (s.link .b).slot)
        = some (.done { status := .inUse, detail := 1, data := [] }) := by decide

/-- R121: code 4 is 4.15 V, above a 3.3 V supply; R140: only the supervisor may while it is open. -/
theorem test_setSupplyLevel :
    answer (exec .setSupplyLevel (asks hall .b .setSupplyLevel [1, 4])) (fun s => (s.link .b).slot)
        = some (.done (goodResponse [4, 1, 1]))
      ∧ answer (exec .setSupplyLevel (asks hall .a .setSupplyLevel [0, 4])) (fun s => (s.link .a).slot)
        = some (.done { status := .notSupervisor, detail := 0, data := [] }) := by decide

/-- A supply monitor on code 3, 3.05 V. -/
def watched : State := { running with trip := { State.reset.trip with threshold := 3 } }

/-- R106, R107: 3049 mV is below code 3's threshold and 3050 mV is not. -/
theorem test_supplyFall :
    answer (exec (.supplyFall 3049) watched) (fun s => (s.trip.supplyLow, s.trip.supplyLatch, s.leases[0].map (·.phase)))
        = some (true, true, some (.tripped { SourceSet.empty with supply := true } false))
      ∧ answer (exec (.supplyFall 3050) watched) (fun s => (s.trip.supplyLow, s.trip.supplyLatch))
        = some (false, false) := by decide

/-- R106: the condition ends at 3150 mV, and the latch stays. -/
theorem test_supplyRise :
    answer (exec (.supplyRise 3150) { watched with
        supplyMv := 3000, trip := { watched.trip with supplyLow := true, supplyLatch := true } })
      (fun s => (s.trip.supplyLow, s.trip.supplyLatch)) = some (false, true)
      ∧ answer (exec (.supplyRise 3149) { watched with
        supplyMv := 3000, trip := { watched.trip with supplyLow := true, supplyLatch := true } })
      (fun s => (s.trip.supplyLow, s.trip.supplyLatch)) = some (true, true) := by decide

/-- R172: a pulse on RSTn shorter than 1 µs is not taken. -/
theorem test_fullReset_pulse :
    answer (exec (.fullReset (.rstn 999)) running) (fun s => (s.resetHeld, s.leases[0].isSome)) = some (false, true)
      ∧ answer (exec (.fullReset (.rstn 1000)) running) (fun s => (s.resetHeld, s.leases[0].isSome))
        = some (true, false) := by decide

/-- R122: an input found LOW at the release is asserted with its latch set. -/
theorem test_resetRelease_seeds :
    answer (exec .resetRelease (pulled { running with resetHeld := true })) (fun s => s.trip.flt0)
      = some { edge := .falling, level := .low, seen := .low, asserted := true, latch := true } := by decide

/-! ## Pins and carriers -/

/-- R97: an unowned pin shows its new rest level and an owned one does not. -/
theorem test_setPinRest :
    answer (exec .setPinRest (asks hall .b .setPinRest [1, 9, 1])) (fun s => (s.link .b).slot)
        = some (.done (goodResponse [9, 1, 0xFF, 1]))
      ∧ answer (exec .setPinRest (asks running .b .setPinRest [1, 0, 0])) (fun s => (s.link .b).slot)
        = some (.done (goodResponse [0, 0, 0, 1])) := by decide

/-- R101. -/
theorem test_setCarrier :
    answer (exec .setCarrier (asks hall .b .setCarrier [1, 1, 0x03, 0xFF])) (fun s => (s.carrierA, (s.link .b).slot))
      = some ({ divider := 1023, high := false, inUse := 0 }, .done (goodResponse [1, 0x03, 0xFF, 0])) := by decide

/-- R99. -/
theorem test_carrierEdge :
    answer (exec (.carrierEdge .ca) { hall with carrierA := { divider := 15, high := false, inUse := 0 } })
      (fun s => s.carrierA.high) = some true := by decide

/-! ## Links -/

/-- R156: 02h 01h 00h FDh is a well-formed RENEW frame. -/
theorem test_commandFrame :
    answer (exec (.commandFrame .a (.whole 0x02 [1, 0, 0xFD])) hall) (fun s => (s.linkA.slot, s.linkA.out))
        = some (.queued { code := 2, params := [0] }, [0, 0, 0, 0])
      ∧ answer (exec (.commandFrame .a (.whole 0x02 [1, 0, 0xFC])) hall) (fun s => s.linkA.slot)
        = some (.done { status := .frameFault, detail := 4, data := [] }) := by decide

/-- R158: status byte 03h reports DONE and a response fetched whole leaves the slot IDLE. -/
theorem test_fetch :
    answer (exec (.fetch .a (.whole 0x80 [0, 0, 0, 0, 0])) { hall with
        linkA := { LinkPort.reset with slot := .done (goodResponse [7]), attention := true } })
      (fun s => (s.linkA.slot, s.linkA.out, s.linkA.attention))
      = some (.idle, [3, 0, 0, 1, 7, 0xF8], false) := by decide

/-- R160: drop 01h lapses the link's OPEN session, and drop 02h is ignored. -/
theorem test_clearLink :
    answer (exec (.clearLink .a (.whole 0xC0 [1])) hall) (fun s => s.sessions[0].map (·.status))
        = some (some (.lapsed 20))
      ∧ answer (exec (.clearLink .a (.whole 0xC0 [2])) { hall with linkA := { LinkPort.reset with refused := true } })
        (fun s => s.linkA.refused) = some true := by decide

/-- R153: a first byte of 40h selects no kind. -/
theorem test_ignored :
    answer (exec (.ignoredTransaction .a (.whole 0x40 [])) hall) (fun s => (s.linkA.slot, s.linkA.out))
      = some (.idle, [0]) := by decide

/-- `hall` with a response in Link A's slot. -/
def settledDone : State :=
  ({ hall with linkA := { LinkPort.reset with slot := .done (goodResponse []) } }).refresh

/-- A state after a happening that answers a next state. -/
def after (i : Instr) (s : State) : State := (answer (exec i s) id).getD s

/-- R153, R154, R168: a transaction that a held reset cut before its first byte, or that fell while one was held, still
sends its status byte with a first byte after the release. -/
theorem test_status_byte_after_reset :
    (after (.ignoredTransaction .a (.first 0x80)) (after .resetRelease (after (.fullReset .powerOn)
        (after (.fetch .a .select) { hall with
          linkA := { LinkPort.reset with slot := .done (goodResponse []), refused := true } })))).linkA.out = [0x0B]
      ∧ (after (.ignoredTransaction .a (.first 0x80)) (after .resetRelease (after (.fetch .a .select)
        (after (.fullReset .powerOn) hall)))).linkA.out = [0] := by decide

/-- R153, R166, R172: data out is driven while chip select is low and no reset is held; attention is pulled low. -/
theorem test_link_lines :
    (after (.fetch .a .select) settledDone).dataOutDriven .a = true ∧ settledDone.dataOutDriven .a = false
      ∧ (after (.fullReset .powerOn) (after (.fetch .a .select) settledDone)).dataOutDriven .a = false
      ∧ settledDone.attentionDrive .a = .low ∧ settledDone.attentionDrive .b = .released
      ∧ (after (.fullReset .powerOn) settledDone).attentionDrive .a = .released := by decide

/-- R172: RSTn stands low from the reset it takes to the release. -/
theorem test_rstn : (after (.fullReset (.rstn 1000)) hall).rstn = .low
    ∧ (after .resetRelease (after (.fullReset (.rstn 1000)) hall)).rstn = .high
    ∧ (after (.fullReset .powerOn) hall).rstn = .high := by decide

/-- R163: 3Fh names no command. -/
theorem test_badCommand :
    answer (exec .badCommand { hall with linkA := { LinkPort.reset with slot := .queued { code := 0x3F, params := [] } } })
      (fun s => s.linkA.slot) = some (.done { status := .badCommand, detail := 0x3F, data := [] }) := by decide

/-! ## Witnesses: the queue, the reset and the executor -/

theorem witness_StepTakesTheFrontCommand : (queued running (.count 0)).pending = [.count 0]
    ∧ running.pending = [] := by decide

theorem witness_ResetIsWhatAReleaseLeaves :
    State.reset.trip.flt0.level = .high ∧ State.reset.trip.flt1.level = .high ∧ State.reset.supplyMv = 3300
      ∧ State.reset.linkA.transaction = none ∧ State.reset.linkB.transaction = none ∧ State.reset.freeCount = 0
      ∧ State.reset.pending = [] := by decide

/-- Each cause at its boundary. -/
theorem witness_FullResetSetsEveryTable : ∀ cause ∈ [ResetCause.rstn 1000, .powerOn, .supply 2749],
    (match cause with | .rstn lowNs => 1000 ≤ lowNs | .powerOn => True | .supply mv => mv < 2750) ∧ 999 < 1000 := by
  intro cause h
  simp only [List.mem_cons, List.not_mem_nil, or_false] at h
  rcases h with rfl | rfl | rfl <;> simp

/-- A full reset held with the supply at a level. -/
def heldAt (mv : Nat) : State := ({ State.reset with resetHeld := true, supplyMv := mv }).refresh

theorem witness_ResetReleaseSeedsTheLatches :
    (heldAt 2751).resetHeld = true ∧ (heldAt 2751).Settled ∧ 2750 < (heldAt 2751).supplyMv
      ∧ (heldAt 2750).resetHeld = true ∧ (heldAt 2750).Settled ∧ (heldAt 2750).supplyMv ≤ 2750
      ∧ State.reset.resetHeld = false :=
  ⟨rfl, State.settled_refresh _, by decide, rfl, State.settled_refresh _, by decide, rfl⟩

theorem witness_NothingIsTakenWhileAResetIsHeld : (heldAt 2750).resetHeld = true := rfl

/-- Both slots QUEUED, Link B served last. -/
def bothAsk : State := asks (asks hall .a .renew [0]) .b .haltAll [1]

theorem witness_ExecutorAnswersInTheCommandsSlot :
    bothAsk.resetHeld = false ∧ (bothAsk.link .a).slot = .queued { code := Command.renew.code, params := [0] }
      ∧ (bothAsk.link .b).slot = .queued { code := Command.haltAll.code, params := [1] }
      ∧ ∀ m g, m ≠ .a → (bothAsk.link m).slot = .queued g → bothAsk.lastServed = m :=
  ⟨by decide, by decide, by decide, fun m g hm _ => by cases m <;> first | exact absurd rfl hm | rfl⟩

theorem witness_CommonChecksRefuseInOrder_length :
    (asks hall .a .openSession [0]).Settled
      ∧ (asks hall .a .openSession [0]).chosen = some (.a, { code := Command.openSession.code, params := [0] })
      ∧ [(0 : Byte)].length ∉ Command.openSession.lengths := ⟨settled_asks .., by decide, by decide⟩

theorem witness_CommonChecksRefuseInOrder_session :
    (asks hall .a .renew [8]).chosen = some (.a, { code := Command.renew.code, params := [8] })
      ∧ 8 ≤ arg [8] 0 ∧ (asks hall .a .renew [7]).chosen = some (.a, { code := Command.renew.code, params := [7] })
      ∧ arg [7] 0 = (7 : SessionNo).val ∧ (asks hall .a .renew [7]).sessions[(7 : SessionNo)] = none := by decide

theorem witness_CommonChecksRefuseInOrder_link :
    (asks hall .b .renew [0]).chosen = some (.b, { code := Command.renew.code, params := [0] })
      ∧ (asks hall .b .renew [0]).sessions[(0 : SessionNo)] = some (record .ordinary .a (.opened 3) 2)
      ∧ (record .ordinary .a (.opened 3) 2).link ≠ .b := by decide

theorem witness_CommonChecksRefuseInOrder_lapsed :
    (asks (hallWith (.lapsed 1)) .a .renew [0]).chosen = some (.a, { code := Command.renew.code, params := [0] })
      ∧ (asks (hallWith (.lapsed 1)) .a .renew [0]).sessions[(0 : SessionNo)]
        = some (record .ordinary .a (.lapsed 1) 2)
      ∧ Command.renew.lapsedMay = false := by decide

/-- A refused AMEND: duty 21 on a period of 20. -/
def amendRefused : State := asks running .a .amend [0, 0, 1, 0, 21, 0, 0]

theorem witness_RefusedCommandsLeaveTheTables : amendRefused.resetHeld = false ∧ amendRefused.Settled
    ∧ amendRefused.chosen = some (.a, { code := Command.amend.code, params := [0, 0, 1, 0, 21, 0, 0] })
    ∧ ∃ t, exec Command.amend.instr amendRefused = .next t
      ∧ (t.link .a).slot = .done { status := .dutyRange, detail := 0, data := [] } :=
  ⟨by decide, settled_asks .., by decide, _, rfl, by decide⟩

theorem witness_UnchosenCommandsChangeNothing : (asks hall .a .renew [0]).Settled
    ∧ ∀ l f, (asks hall .a .renew [0]).chosen = some (l, f) → f.code ≠ Command.haltAll.code := by
  refine ⟨settled_asks .., fun l f h => ?_⟩
  rw [show (asks hall .a .renew [0]).chosen = some (.a, { code := 0x02, params := [0] }) by decide] at h
  injection h with h
  injection h with _ h
  rw [← h]
  decide

/-- A frame of a code that names no command. -/
def unnamed : State :=
  ({ hall with linkA := { LinkPort.reset with slot := .queued { code := 0x3F, params := [] } } }).refresh

theorem witness_BadCommandIsRefused : unnamed.resetHeld = false ∧ unnamed.Settled
    ∧ unnamed.chosen = some (.a, { code := 0x3F, params := [] }) ∧ ∀ c : Command, c.code ≠ 0x3F :=
  ⟨by decide, State.settled_refresh _, by decide, fun c => by cases c <;> decide⟩

/-! ## Witnesses: sessions and notices -/

/-- A hall with no supervisor. -/
def lobby : State :=
  { State.reset with sessions := putAt (Vector.replicate 8 none) 0 (some (record .ordinary .a (.opened 3) 2)) }

/-- An ordinary request with interval 1 and quota 16 on Link A, and a supervisor one with interval 255 and quota 1. -/
theorem witness_OpenSessionTakesTheLowestFreeRecord :
    (asks hall .a .openSession [0, 1, 16, 0]).resetHeld = false ∧ (asks hall .a .openSession [0, 1, 16, 0]).Settled
      ∧ (asks hall .a .openSession [0, 1, 16, 0]).chosen
        = some (.a, { code := Command.openSession.code, params := [0, 1, 16, 0] })
      ∧ OpenFields [0, 1, 16, 0] .ordinary KindSet.empty
      ∧ (asks hall .a .openSession [0, 1, 16, 0]).sessions[(2 : SessionNo)] = none
      ∧ (∀ m : SessionNo, m < 2 → (asks hall .a .openSession [0, 1, 16, 0]).sessions[m] ≠ none)
      ∧ OpenFields [1, 255, 1, 63] .supervisor allKinds
      ∧ (asks lobby .b .openSession [1, 255, 1, 63]).chosen
        = some (.b, { code := Command.openSession.code, params := [1, 255, 1, 63] })
      ∧ (∀ m, (asks lobby .b .openSession [1, 255, 1, 63]).isSupervisor m = false)
      ∧ (asks lobby .b .openSession [1, 255, 1, 63]).sessions[(1 : SessionNo)] = none
      ∧ ∀ m : SessionNo, m < 1 → (asks lobby .b .openSession [1, 255, 1, 63]).sessions[m] ≠ none :=
  ⟨by decide, settled_asks .., by decide, ⟨by decide, by decide, by decide, by decide, by decide⟩, by decide,
    by decide, ⟨by decide, by decide, by decide, by decide, by decide⟩, by decide, by decide, by decide, by decide⟩

/-- A hall with all eight sessions OPEN. -/
def full : State := { State.reset with sessions := Vector.replicate 8 (some (record .ordinary .a (.opened 3) 2)) }

/-- Quota 17 is out of range; a supervisor request on Link A; one beside a supervisor; and one with no record left. -/
theorem witness_OpenSessionRefusesInOrder :
    (∀ cls mask, ¬ OpenFields [0, 1, 17, 0] cls mask)
      ∧ OpenFields [1, 1, 16, 0] .supervisor KindSet.empty ∧ Link.a ≠ .b
      ∧ (asks hall .b .openSession [1, 1, 16, 0]).chosen
        = some (.b, { code := Command.openSession.code, params := [1, 1, 16, 0] })
      ∧ (asks hall .b .openSession [1, 1, 16, 0]).isSupervisor 1 = true
      ∧ (∀ j : SessionNo, j < 1 → (asks hall .b .openSession [1, 1, 16, 0]).isSupervisor j = false)
      ∧ (asks full .b .openSession [1, 1, 16, 0]).chosen
        = some (.b, { code := Command.openSession.code, params := [1, 1, 16, 0] })
      ∧ (∀ m, (asks full .b .openSession [1, 1, 16, 0]).isSupervisor m = false)
      ∧ ∀ m : SessionNo, (asks full .b .openSession [1, 1, 16, 0]).sessions[m] ≠ none :=
  ⟨fun _ _ h => absurd h.2.2.2.1 (by decide), ⟨by decide, by decide, by decide, by decide, by decide⟩, by decide,
    by decide, by decide, by decide, by decide, by decide, by decide⟩

/-- The record of S0 in `hall`. -/
def s0 : SessionRecord := record .ordinary .a (.opened 3) 2

/-- The record of S1 in `hall`. -/
def s1 : SessionRecord := record .supervisor .b (.opened 3) 16

theorem serves_of {s : State} {c : Command} {l : Link} {ps : List Byte} {n : SessionNo} {r : SessionRecord}
    (h : s.resetHeld = false ∧ s.chosen = some (l, { code := c.code, params := ps }) ∧ ps.length ∈ c.lengths
      ∧ arg ps 0 = n.val ∧ s.sessions[n] = some r ∧ r.link = l ∧ c.allowedIn r.status = true) :
    s.Serves c l ps n r :=
  ⟨h.1, h.2.1, h.2.2.1, h.2.2.2.1, h.2.2.2.2.1, h.2.2.2.2.2.1, h.2.2.2.2.2.2⟩

theorem witness_RenewReloadsTheRemainingTime : (asks running .a .renew [0]).Serves .renew .a [0] 0 s0
    ∧ (asks running .a .renew [0]).Settled := ⟨serves_of (by decide), settled_asks ..⟩

theorem witness_CloseSessionTearsDownItsLeases :
    (asks running .a .closeSession [0]).Serves .closeSession .a [0] 0 s0
      ∧ (asks running .a .closeSession [0]).CountsAgree :=
  ⟨serves_of (by decide), by decide, fun c => by cases c <;> decide⟩

/-- L0 of the LAPSED S0, and the supervisor asks to adopt it. -/
def adopting : State := asks (leasedOn (hallWith (.lapsed 9)) 0 8 .running none 0 none) .b .adopt [1, 0]

theorem witness_AdoptChangesTheHolderAlone : adopting.Serves .adopt .b [1, 0] 1 s1 ∧ adopting.Settled
    ∧ s1.cls = .supervisor ∧ arg [1, 0] 1 = (0 : LeaseNo).val
    ∧ adopting.leases[(0 : LeaseNo)] = some (lease0 0 8 .running)
    ∧ adopting.sessions[(lease0 0 8 .running).holder] = some (record .ordinary .a (.lapsed 9) 2)
    ∧ adopting.heldCount 1 ≠ s1.quota :=
  ⟨serves_of (by decide), settled_asks .., by decide, by decide, by decide, by decide, by decide⟩

theorem witness_ReadNoticesEmptiesTheSet :
    (asks hall .a .readNotices [0]).Serves .readNotices .a [0] 0 s0 ∧ (asks hall .a .readNotices [0]).Settled :=
  ⟨serves_of (by decide), settled_asks ..⟩

theorem witness_QueriesReportTheRecord :
    (asks running .a .querySession [0, 7]).Serves .querySession .a [0, 7] 0 s0
      ∧ (asks running .a .queryTimebase [0, 3]).Serves .queryTimebase .a [0, 3] 0 s0
      ∧ (asks running .a .listLeases [0, 7]).Serves .listLeases .a [0, 7] 0 s0
      ∧ arg [0, 7] 1 = (7 : SessionNo).val ∧ arg [0, 3] 1 = (3 : TimebaseNo).val :=
  ⟨serves_of (by decide), serves_of (by decide), serves_of (by decide), by decide, by decide⟩

theorem witness_LookupsReportTheLease :
    (asks amending .a .queryLease [0, 15, 0]).Serves .queryLease .a [0, 15, 0] 0 s0
      ∧ arg [0, 15, 0] 1 = (15 : LeaseNo).val ∧ arg [0, 15, 0] 2 = 0
      ∧ (asks amending .a .queryLease [0, 0, 1]).Serves .queryLease .a [0, 0, 1] 0 s0
      ∧ (asks amending .a .queryLease [0, 0, 1]).leases[(0 : LeaseNo)]
        = some (lease0 0 8 (.amendPending [plain 5]))
      ∧ (asks amending .a .findByPin [0, 23]).Serves .findByPin .a [0, 23] 0 s0
      ∧ arg [0, 23] 1 = (23 : PinNo).val :=
  ⟨serves_of (by decide), by decide, by decide, serves_of (by decide), by decide, serves_of (by decide), by decide⟩

/-- A tick with one session OPEN at 1, whose lease trips, and one OPEN at 3; one LAPSED at 1; and one LAPSED at 2. -/
theorem witness_TickMovesEveryTimer :
    running.resetHeld = false ∧ (queued running (.tick (some 7))).Settled
      ∧ (queued running (.tick (some 7))).sessions[(7 : SessionNo)] = none
      ∧ (hallWith (.opened 1)).sessions[(0 : SessionNo)] = some (record .ordinary .a (.opened 1) 2)
      ∧ (hallWith (.lapsed 1)).sessions[(0 : SessionNo)] = some (record .ordinary .a (.lapsed 1) 2)
      ∧ (hallWith (.lapsed 2)).sessions[(0 : SessionNo)] = some (record .ordinary .a (.lapsed 2) 2) :=
  ⟨by decide, settled_queued .., by decide, by decide, by decide, by decide⟩

/-- L0 of S0 at the end of its time. -/
def lapsing : State := leasedOn (hallWith (.opened 1)) 0 8 .running none 0 none

theorem witness_LapseTripsTheSessionsLeases : lapsing.resetHeld = false
    ∧ lapsing.sessions[(0 : SessionNo)] = some (record .ordinary .a (.opened 1) 2) ∧ lapsing.CountsAgree :=
  ⟨by decide, by decide, by decide, fun c => by cases c <;> decide⟩

/-- L0 of S0 at the end of its hold. -/
def expiring : State := leasedOn (hallWith (.lapsed 1)) 0 8 .running none 0 none

theorem witness_HoldExpiryClosesTheSession : expiring.resetHeld = false
    ∧ expiring.sessions[(0 : SessionNo)] = some (record .ordinary .a (.lapsed 1) 2) ∧ expiring.CountsAgree :=
  ⟨by decide, by decide, by decide, fun c => by cases c <;> decide⟩

/-! ## Witnesses: claims -/

/-- Whether a reading answers a value. -/
def answers {α β : Type} [DecidableEq β] (e : Except α β) (b : β) : Bool :=
  match e with
  | .ok x => decide (x = b)
  | .error _ => false

theorem ok_of_answers {α β : Type} [DecidableEq β] {e : Except α β} {b : β} (h : answers e b = true) : e = .ok b := by
  unfold answers at h
  split at h
  · rw [of_decide_eq_true h]
  · exact absurd h (by simp)

theorem spelled {ps : List Byte} {q : ClaimRequest} (hl : ps.length ∈ Command.claim.lengths)
    (h : answers (readClaim ps) q = true) : ClaimSpelled ps q := claimSpelled_of_read hl (ok_of_answers h)

/-- A claim of the pair P5 and P6 and of the single P7 gated on CA, at period 20 on TB1. -/
def claimPs : List Nat := [0, 1, 0, 20, 2, 3, 2, 5, 6, 0, 8, 2, 0, 4, 7, 255, 0, 20, 0, 1, 2]

/-- The request those parameters spell. -/
def claimRequest : ClaimRequest :=
  { timebase := 1, period := 20, prescale := 2, subscription := { flt0 := true, flt1 := true },
    blocks := [{ pin := 5, complementPin := some 6, settings := { plain 8 with deadBand := 2 }, drive := .pushPull,
                 safe := .low, complementSafe := .high },
               { pin := 7, complementPin := none, settings := { plain 20 with gate := some .ca }, drive := .pushPull,
                 safe := .float, complementSafe := .low }] }

/-- The running lease beside a claim, with CA RUNNING. -/
def claiming : State :=
  asks { running with carrierA := { divider := 1, high := false, inUse := 0 } } .a .claim claimPs

theorem witness_ClaimFillsTheLowestFreeLease :
    claiming.Serves .claim .a (claimPs.map byte) 0 s0 ∧ ClaimSpelled (claimPs.map byte) claimRequest
      ∧ claiming.leases[(1 : LeaseNo)] = none ∧ (∀ j : LeaseNo, j < 1 → claiming.leases[j] ≠ none)
      ∧ claiming.heldCount 0 ≠ s0.quota ∧ (∀ p ∈ claimRequest.pins, claiming.pins[p].owner = none)
      ∧ (∀ b ∈ claimRequest.blocks, b.complementPin ≠ none →
          safePairFits b.settings.polarity b.safe b.complementSafe = true)
      ∧ claiming.timebases[claimRequest.timebase].run = none ∧ claimRequest.period ≠ 0
      ∧ (∀ b ∈ claimRequest.blocks, b.settings.duty ≤ claimRequest.period)
      ∧ (∀ b ∈ claimRequest.blocks, b.settings.gate = some .ca → (claiming.carrier .ca).divider ≠ 0)
      ∧ (∀ b ∈ claimRequest.blocks, b.settings.gate ≠ some .cb)
      ∧ claiming.trip.flt0.latch = false ∧ claiming.trip.flt1.latch = false
      ∧ claiming.trip.supplyLatch = false ∧ claiming.trip.haltLatch = false
      ∧ allocate claiming.channels (claimRequest.blocks.map fun b => b.complementPin.isSome)
        = .ok [(0, 2), (1, 1)] :=
  ⟨serves_of (by decide), spelled (by decide) (by decide), by decide, by decide, by decide, by decide, by decide, by decide,
    by decide, by decide, by decide, by decide, by decide, by decide, by decide, by decide, ok_of_answers (by decide)⟩

/-- A claim that follows TB0, which is RETUNING to 30: the governing period is the coming one and its duty the period
in force. -/
theorem witness_ClaimFillsTheLowestFreeLease_joining :
    (asks (leasedOn hall 0 8 .running none 5 (some 30)) .a .claim [0, 0, 0, 0, 7, 0, 1, 23, 255, 0, 20, 0, 0, 12]).Serves
        .claim .a [0, 0, 0, 0, 7, 0, 1, 23, 255, 0, 20, 0, 0, 12] 0 s0
      ∧ (asks (leasedOn hall 0 8 .running none 5 (some 30)) .a .claim
          [0, 0, 0, 0, 7, 0, 1, 23, 255, 0, 20, 0, 0, 12]).timebases[(0 : TimebaseNo)].run
        = some { period := 20, staged := some 30, holder := 0, startPending := false }
      ∧ TimebaseRun.coming { period := 20, staged := some 30, holder := 0, startPending := false } = 30 :=
  ⟨serves_of (by decide), by decide, by decide⟩

/-- A claim of one single binding on P0, at a period on TB1, with a duty, a settings byte and a safe byte. -/
def claimP0 (complement period duty settings safe : Nat) : List Nat :=
  [0, 1, 0, period, 2, 1, 1, 0, complement, 0, duty, 0, settings, safe]

/-- The request it spells with no complement pin, a gate and safe level LOW. -/
def requestP0 (period duty : Nat) (gate : Option Carrier) : ClaimRequest :=
  { timebase := 1, period := period, prescale := 2, subscription := { flt0 := true, flt1 := false },
    blocks := [{ pin := 0, complementPin := none, settings := { plain duty with gate := gate }, drive := .pushPull,
                 safe := .low, complementSafe := .low }] }

/-- The request with complement pin P1 and both safe levels HIGH. -/
def requestBothHigh : ClaimRequest :=
  { requestP0 20 8 none with
    blocks := [{ pin := 0, complementPin := some 1, settings := plain 8, drive := .pushPull, safe := .high,
                 complementSafe := .high }] }

/-- Every lease record taken. -/
def packed : State := { hall with leases := Vector.replicate 16 (some (lease0 1 8 .armed)) }

/-- S0 holds its quota of two leases. -/
def atQuota : State :=
  { hall with
    leases := putAt (putAt (Vector.replicate 16 none) 0 (some (lease0 0 8 .armed))) 1 (some (lease0 0 8 .armed)) }

/-- S0 asks for a claim. -/
def asksClaim (s : State) (ps : List Nat) : State := asks s .a .claim ps

/-- Step 1: a period of 15; and, after one block, a second that names the first one's pin. -/
theorem witness_ClaimRefusesInOrder_fields :
    (asksClaim hall (claimP0 255 15 8 0 0)).Serves .claim .a ((claimP0 255 15 8 0 0).map byte) 0 s0
      ∧ (asksClaim hall (claimP0 255 15 8 0 0)).Settled ∧ ClaimMisspelled ((claimP0 255 15 8 0 0).map byte) 0xFF
      ∧ (asksClaim hall [0, 1, 0, 16, 2, 1, 2, 0, 255, 0, 8, 0, 0, 0, 0, 1, 0, 8, 0, 0, 0]).Serves .claim .a
          [0, 1, 0, 16, 2, 1, 2, 0, 255, 0, 8, 0, 0, 0, 0, 1, 0, 8, 0, 0, 0] 0 s0
      ∧ ClaimMisspelled [0, 1, 0, 16, 2, 1, 2, 0, 255, 0, 8, 0, 0, 0, 0, 1, 0, 8, 0, 0, 0] 1 := by
  refine ⟨serves_of (by decide), settled_asks .., .inl ⟨fun h => absurd h.2.1 (by decide), rfl⟩, serves_of (by decide),
    .inr ⟨⟨by decide, by decide, by decide, by decide, by decide, by decide, by decide⟩, (requestP0 16 8 none).blocks,
      by decide, ?_, fun x h => ?_, by decide⟩⟩
  · have h := readClaimBlock_eq_some (ps := [0, 1, 0, 16, 2, 1, 2, 0, 255, 0, 8, 0, 0, 0, 0, 1, 0, 8, 0, 0, 0])
      (i := 0) (earlier := []) (x := (requestP0 16 8 none).blocks.head (by decide))
    exact claimBlocksFrom_zero.1 (claimBlocksFrom_cons.2 ⟨h.1 (by decide), claimBlocksFrom_nil _ _ _⟩)
  · obtain ⟨h1, h2⟩ := h 1 x rfl
    have : (0 : PinNo) ∈ x.pins := by
      have := h1.pin
      simp only [ClaimBlock.pins, List.mem_cons]
      exact .inl (Fin.ext (by rw [← this]; decide))
    exact h2 0 _ (by decide) rfl 0 this (by decide)

/-- Steps 2 to 4: no FREE record; the quota of 2 held; and P0 owned. -/
theorem witness_ClaimRefusesInOrder_room :
    ClaimSpelled ((claimP0 255 20 8 0 0).map byte) (requestP0 20 8 none)
      ∧ (asksClaim packed (claimP0 255 20 8 0 0)).Serves .claim .a ((claimP0 255 20 8 0 0).map byte) 0 s0
      ∧ (asksClaim packed (claimP0 255 20 8 0 0)).ClaimRefused 0 s0 (requestP0 20 8 none) .noLeaseSpace 0
      ∧ (asksClaim atQuota (claimP0 255 20 8 0 0)).Serves .claim .a ((claimP0 255 20 8 0 0).map byte) 0 s0
      ∧ (asksClaim atQuota (claimP0 255 20 8 0 0)).ClaimRefused 0 s0 (requestP0 20 8 none) .quota 2
      ∧ (asksClaim running (claimP0 255 20 8 0 0)).Serves .claim .a ((claimP0 255 20 8 0 0).map byte) 0 s0
      ∧ (asksClaim running (claimP0 255 20 8 0 0)).ClaimRefused 0 s0 (requestP0 20 8 none) .pinTaken 0 :=
  ⟨spelled (by decide) (by decide), serves_of (by decide), .inl ⟨by decide, rfl, rfl⟩, serves_of (by decide),
    .inr ⟨⟨2, by decide⟩, .inl ⟨by decide, rfl, by decide⟩⟩, serves_of (by decide),
    .inr ⟨⟨1, by decide⟩, .inr ⟨by decide, .inl ⟨0, by decide, by decide, by decide, rfl, by decide⟩⟩⟩⟩

/-- Steps 5 and 6: both safe levels active; a period of 0 on the IDLE TB1; and a period and prescale code that both
differ from those of TB0. -/
theorem witness_ClaimRefusesInOrder_timebase :
    (asksClaim hall (claimP0 1 20 8 0 5)).Serves .claim .a ((claimP0 1 20 8 0 5).map byte) 0 s0
      ∧ ClaimSpelled ((claimP0 1 20 8 0 5).map byte) requestBothHigh
      ∧ (asksClaim hall (claimP0 1 20 8 0 5)).ClaimRefused 0 s0 requestBothHigh .badSafe 0
      ∧ (asksClaim hall (claimP0 255 0 8 0 0)).Serves .claim .a ((claimP0 255 0 8 0 0).map byte) 0 s0
      ∧ ClaimSpelled ((claimP0 255 0 8 0 0).map byte) (requestP0 0 8 none)
      ∧ (asksClaim hall (claimP0 255 0 8 0 0)).ClaimRefused 0 s0 (requestP0 0 8 none) .badArgument 0xFF
      ∧ (asksClaim running [0, 0, 0, 21, 3, 0, 1, 5, 255, 0, 8, 0, 0, 0]).Serves .claim .a
          [0, 0, 0, 21, 3, 0, 1, 5, 255, 0, 8, 0, 0, 0] 0 s0
      ∧ ∃ q, ClaimSpelled [0, 0, 0, 21, 3, 0, 1, 5, 255, 0, 8, 0, 0, 0] q
        ∧ (asksClaim running [0, 0, 0, 21, 3, 0, 1, 5, 255, 0, 8, 0, 0, 0]).ClaimRefused 0 s0 q .periodConflict 3 := by
  have hrun : (asksClaim running [0, 0, 0, 21, 3, 0, 1, 5, 255, 0, 8, 0, 0, 0]).timebases[(0 : TimebaseNo)].run
      = some { period := 20, staged := none, holder := 0, startPending := false } := by decide
  refine ⟨serves_of (by decide), spelled (by decide) (by decide),
    .inr ⟨⟨0, by decide⟩, .inr ⟨by decide, .inr ⟨by decide, .inl ⟨0, ⟨⟨_, rfl, ?_⟩, fun j _ h => absurd h (by omega)⟩, rfl, rfl⟩⟩⟩⟩,
    serves_of (by decide), spelled (by decide) (by decide),
    .inr ⟨⟨0, by decide⟩, .inr ⟨by decide, .inr ⟨by decide, .inr ⟨?_, .inl ⟨by decide, by decide, rfl, rfl⟩⟩⟩⟩⟩,
    serves_of (by decide),
    { requestP0 21 8 none with
      timebase := 0, prescale := 3, subscription := { flt0 := false, flt1 := false }
      blocks := [{ pin := 5, complementPin := none, settings := plain 8, drive := .pushPull, safe := .low,
                   complementSafe := .low }] }, spelled (by decide) (by decide),
    .inr ⟨⟨1, by decide⟩, .inr ⟨by decide, .inr ⟨by decide, .inr ⟨?_, .inr (.inl ⟨_, hrun, ?_, rfl, by decide⟩)⟩⟩⟩⟩⟩
  · simp [SafeLevelsPass, Polarity.shownActive, plain]
  · simp [requestP0]
  · simp
  · simp only [Timebase.Agrees, hrun]
    decide

/-- A state beside a claim of P0 at period 20 on TB1 with duty and gate: steps 2 to 6 pass. -/
theorem past_timebase {s : State} {duty : Nat} {gate : Option Carrier} {st : Status} {d : Byte}
    (h1 : s.leases[(1 : LeaseNo)] = none) (h2 : s.heldCount 0 ≠ s0.quota) (h3 : s.pins[(0 : PinNo)].owner = none)
    (h4 : s.timebases[(1 : TimebaseNo)].run = none)
    (h : (20 < duty ∧ st = .dutyRange ∧ d = 0)
      ∨ (duty ≤ 20 ∧ ((∃ c, gate = some c ∧ (s.carrier c).divider = 0 ∧ st = .carrierOff ∧ d = 0)
        ∨ (gate = none ∧ ((s.trip.latchesOn (requestP0 20 duty gate) ≠ 0 ∧ st = .faultActive
              ∧ d = byte (s.trip.latchesOn (requestP0 20 duty gate)))
          ∨ (s.trip.latchesOn (requestP0 20 duty gate) = 0 ∧ allocate s.channels [false] = .error 0
              ∧ st = .noChannel ∧ d = 0)))))) :
    s.ClaimRefused 0 s0 (requestP0 20 duty gate) st d := by
  have hb : (requestP0 20 duty gate).timebase = 1 := rfl
  have hduty : ∀ b ∈ (requestP0 20 duty gate).blocks,
      (s.timebases[(requestP0 20 duty gate).timebase].DutyPasses (requestP0 20 duty gate) b.settings.duty ↔ duty ≤ 20) := by
    intro b hm
    simp only [requestP0, List.mem_singleton] at hm
    subst hm
    simp only [Timebase.DutyPasses, hb, h4]
    rfl
  refine .inr ⟨⟨1, h1⟩, .inr ⟨h2, .inr ⟨?_, .inr ⟨?_, .inr (.inr ⟨?_, ?_⟩)⟩⟩⟩⟩
  · intro p hp
    simp only [ClaimRequest.pins, ClaimBlock.pins, requestP0, List.flatMap_cons, List.flatMap_nil, Option.toList,
      List.append_nil, List.mem_singleton] at hp
    subst hp
    exact h3
  · simp [requestP0]
  · simp only [Timebase.Agrees, hb, h4]
    exact Nat.succ_ne_zero 19
  · rcases h with ⟨hd, rfl, rfl⟩ | ⟨hd, h⟩
    · exact .inl ⟨0, ⟨⟨_, rfl, fun hp => absurd ((hduty _ (by simp [requestP0])).1 hp) (by omega)⟩,
        fun j _ hj => absurd hj (by omega)⟩, rfl, rfl⟩
    refine .inr ⟨fun b hm => (hduty b hm).2 hd, ?_⟩
    rcases h with ⟨c, rfl, hc, rfl, rfl⟩ | ⟨rfl, h⟩
    · exact .inl ⟨0, ⟨⟨_, rfl, fun hp => hp c rfl hc⟩, fun j _ hj => absurd hj (by omega)⟩, rfl, rfl⟩
    refine .inr ⟨fun b hm c hc => ?_, ?_⟩
    · simp only [requestP0, List.mem_singleton] at hm
      subst hm
      cases hc
    rcases h with ⟨hl, rfl, rfl⟩ | ⟨hl, ha, rfl, rfl⟩
    · exact .inl ⟨hl, rfl, rfl⟩
    · exact .inr ⟨hl, 0, by simpa [requestP0] using ha, rfl, rfl⟩

/-- FLT0 latched and FLT1 too, of which the claim names FLT0. -/
def latched : State :=
  { hall with trip := { State.reset.trip with
      flt0 := { State.reset.trip.flt0 with latch := true }, flt1 := { State.reset.trip.flt1 with latch := true } } }

/-- Every channel held. -/
def noChannels : State := { hall with channels := Vector.replicate 12 (some place0) }

/-- Steps 7 to 10: a duty of 21 at period 20; CA STOPPED; FLT0 latched; and no channel left. -/
theorem witness_ClaimRefusesInOrder_rest :
    ∀ x ∈ [(hall, 21, 0, none, Status.dutyRange, (0 : Byte)), (hall, 20, 1, some Carrier.ca, .carrierOff, 0),
        (latched, 20, 0, none, .faultActive, 1), (noChannels, 20, 0, none, .noChannel, 0)],
      (asksClaim x.1 (claimP0 255 20 x.2.1 x.2.2.1 0)).Serves .claim .a ((claimP0 255 20 x.2.1 x.2.2.1 0).map byte) 0 s0
        ∧ ClaimSpelled ((claimP0 255 20 x.2.1 x.2.2.1 0).map byte) (requestP0 20 x.2.1 x.2.2.2.1)
        ∧ (asksClaim x.1 (claimP0 255 20 x.2.1 x.2.2.1 0)).ClaimRefused 0 s0 (requestP0 20 x.2.1 x.2.2.2.1)
            x.2.2.2.2.1 x.2.2.2.2.2 := by
  intro x hx
  simp only [List.mem_cons, List.not_mem_nil, or_false] at hx
  rcases hx with rfl | rfl | rfl | rfl
  · exact ⟨serves_of (by decide), spelled (by decide) (by decide), past_timebase (by decide) (by decide) (by decide)
      (by decide) (.inl ⟨by decide, rfl, rfl⟩)⟩
  · exact ⟨serves_of (by decide), spelled (by decide) (by decide), past_timebase (by decide) (by decide) (by decide)
      (by decide) (.inr ⟨by decide, .inl ⟨.ca, rfl, by decide, rfl, rfl⟩⟩)⟩
  · exact ⟨serves_of (by decide), spelled (by decide) (by decide), past_timebase (by decide) (by decide) (by decide)
      (by decide) (.inr ⟨by decide, .inr ⟨rfl, .inl ⟨by decide, rfl, by decide⟩⟩⟩)⟩
  · exact ⟨serves_of (by decide), spelled (by decide) (by decide), past_timebase (by decide) (by decide) (by decide)
      (by decide) (.inr ⟨by decide, .inr ⟨rfl, .inr ⟨by decide, by rfl, rfl, rfl⟩⟩⟩)⟩

/-- The pairs first and then the single; the second of two pairs that finds none; and, with the pair placed, a single
that finds no channel. -/
theorem witness_AllocationTakesAlignedPairs :
    allocate (putAt (Vector.replicate 12 none) 0 (some place0)) [false, true, true] = .ok [(1, 2), (2, 4), (0, 1)]
      ∧ allocate (putAt (putAt (Vector.replicate 12 (some place0)) 4 none) 5 none) [true, true] = .error 1
      ∧ allocate (putAt (putAt (Vector.replicate 12 (some place0)) 4 none) 5 none) [false, true] = .error 0 :=
  ⟨rfl, rfl, rfl⟩

/-! ## Witnesses: amending and retiring -/

/-- The record of L0 RUNNING in `running`. -/
def ranL0 : LeaseRecord := lease0 0 8 .running

theorem l0_running (l : Link) (c : Command) (ps : List Nat) : (asks running l c ps).leases[(0 : LeaseNo)] = some ranL0 := by
  rw [leases_asks, leases_running, putAt_self]; rfl

/-- The lease guard: lease 16; a supervisor that is not the holder; RAMP with step 0; a lease that is not TRIPPED. -/
theorem witness_OwnChecksRefuseInOrder_guard :
    (asks running .a .clearTrip [0, 16]).Serves .clearTrip .a [0, 16] 0 s0
      ∧ (asks running .a .clearTrip [0, 16]).Settled
      ∧ (asks running .a .clearTrip [0, 16]).GuardRefuses .clearTrip 0 s0 [0, 16] .badArgument 0xFF
      ∧ (asks running .b .amend [1, 0, 1, 0, 8, 0, 0]).Serves .amend .b [1, 0, 1, 0, 8, 0, 0] 1 s1
      ∧ (asks running .b .amend [1, 0, 1, 0, 8, 0, 0]).GuardRefuses .amend 1 s1 [1, 0, 1, 0, 8, 0, 0] .notHolder 0
      ∧ (asks running .a .retire [0, 0, 2, 0]).Serves .retire .a [0, 0, 2, 0] 0 s0
      ∧ (asks running .a .retire [0, 0, 2, 0]).GuardRefuses .retire 0 s0 [0, 0, 2, 0] .badArgument 0xFF
      ∧ (asks running .a .clearTrip [0, 0]).Serves .clearTrip .a [0, 0] 0 s0
      ∧ (asks running .a .clearTrip [0, 0]).GuardRefuses .clearTrip 0 s0 [0, 0] .wrongState 2 := by
  refine ⟨serves_of (by decide), settled_asks .., ⟨by decide, .inl ⟨by decide, rfl, rfl⟩⟩, serves_of (by decide),
    ⟨by decide, .inr ⟨0, by decide, .inr (.inl ⟨?_, by decide, rfl, by decide⟩)⟩⟩, serves_of (by decide),
    ⟨by decide, .inr ⟨0, by decide, .inr (.inr (.inl ⟨.inl ⟨by decide, by decide⟩, ?_, rfl, rfl⟩))⟩⟩,
    serves_of (by decide),
    ⟨by decide, .inr ⟨0, by decide, .inr (.inr (.inr (.inl ⟨.inl ⟨by decide, by decide⟩, ?_, ?_, rfl, by decide⟩)))⟩⟩⟩
  · rintro (⟨-, h⟩ | ⟨h, -⟩ | h)
    · exact absurd h (by decide)
    · exact absurd h (by decide)
    · cases h
  · exact fun h => absurd (h.1 rfl) (by decide)
  · exact ⟨(fun h => by cases h), (fun h => by cases h)⟩
  · rintro (⟨h, -⟩ | ⟨x, hx, h⟩)
    · cases h
    · rw [l0_running] at hx
      injection hx with hx
      subst hx
      simp [ranL0, lease0] at h

/-- L0 of the LAPSED S0, and the supervisor, at its quota of one, holding L1. -/
def adoptFull : State :=
  { hallWith (.lapsed 9) with
    sessions := putAt (hallWith (.lapsed 9)).sessions 1 (some (record .supervisor .b (.opened 3) 1))
    leases := putAt (putAt (Vector.replicate 16 none) 0 (some (lease0 0 8 .armed))) 1 (some (lease0 1 8 .armed)) }

/-- ADOPT by an ordinary session, of a lease whose holder is OPEN, and at the quota; QUERY LEASE with view 2, and its
STAGED view of a lease with no staged change. -/
theorem witness_OwnChecksRefuseInOrder_adopt :
    (asks running .a .adopt [0, 0]).Serves .adopt .a [0, 0] 0 s0
      ∧ (asks running .a .adopt [0, 0]).GuardRefuses .adopt 0 s0 [0, 0] .notSupervisor 0
      ∧ (asks running .b .adopt [1, 0]).Serves .adopt .b [1, 0] 1 s1
      ∧ (asks running .b .adopt [1, 0]).GuardRefuses .adopt 1 s1 [1, 0] .wrongState 2
      ∧ (asks adoptFull .b .adopt [1, 0]).Serves .adopt .b [1, 0] 1 (record .supervisor .b (.opened 3) 1)
      ∧ (asks adoptFull .b .adopt [1, 0]).GuardRefuses .adopt 1 (record .supervisor .b (.opened 3) 1) [1, 0] .quota 1
      ∧ (asks running .a .queryLease [0, 15, 2]).Serves .queryLease .a [0, 15, 2] 0 s0
      ∧ (asks running .a .queryLease [0, 15, 2]).GuardRefuses .queryLease 0 s0 [0, 15, 2] .badArgument 0xFF
      ∧ (asks running .a .queryLease [0, 0, 1]).Serves .queryLease .a [0, 0, 1] 0 s0
      ∧ (asks running .a .queryLease [0, 0, 1]).GuardRefuses .queryLease 0 s0 [0, 0, 1] .wrongState 2 := by
  refine ⟨serves_of (by decide), ⟨by decide, .inr ⟨0, by decide, .inl ⟨?_, rfl, rfl, rfl⟩⟩⟩, serves_of (by decide),
    ⟨by decide, .inr ⟨0, by decide, .inr (.inr (.inr (.inl ⟨.inr (.inl ⟨by decide, rfl⟩), ?_, ?_, rfl, by decide⟩)))⟩⟩,
    serves_of (by decide),
    ⟨by decide, .inr ⟨0, by decide, .inr (.inr (.inr (.inr ⟨.inr (.inl ⟨by decide, rfl⟩), .inr ⟨lease0 0 8 .armed, by decide,
      .inr (.inr (.inr (.inl ⟨rfl, record .ordinary .a (.lapsed 9) 2, 9, by decide, rfl⟩)))⟩, rfl, by decide, rfl,
      by decide⟩)))⟩⟩,
    serves_of (by decide),
    ⟨by decide, .inr ⟨15, by decide, .inr (.inr (.inl ⟨.inr (.inr rfl), fun h => absurd (h.2 rfl) (by decide), rfl, rfl⟩))⟩⟩,
    serves_of (by decide),
    ⟨by decide, .inr ⟨0, by decide, .inr (.inr (.inr (.inl ⟨.inr (.inr rfl), ⟨(fun h => by cases h), (fun _ => by decide)⟩, ?_, rfl,
      by decide⟩)))⟩⟩⟩
  · rintro (⟨h, -⟩ | ⟨-, h⟩ | h)
    · exact absurd h (by decide)
    · cases h
    · cases h
  · exact ⟨(fun h => by cases h), (fun h => by cases h)⟩
  · rintro (⟨h, -⟩ | ⟨x, hx, h⟩)
    · cases h
    · rw [l0_running] at hx
      injection hx with hx
      subst hx
      simp only [reduceCtorEq, false_and, true_and, false_or, or_false] at h
      obtain ⟨y, k, hy, hk⟩ := h
      rw [show (asks running .b .adopt [1, 0]).sessions[ranL0.holder] = some s0 by decide] at hy
      injection hy with hy
      subst hy
      cases hk
  · rintro (⟨-, h⟩ | ⟨x, hx, h⟩)
    · exact absurd h (by decide)
    · rw [l0_running] at hx
      injection hx with hx
      subst hx
      simp [ranL0, lease0] at h

/-- Steps 4 to 7 refuse an AMEND by S0 of its RUNNING L0 when they refuse its parameters. -/
theorem amend_refuses {s : State} {x : LeaseRecord} {y : TimebaseRun} {ps : List Byte} {st : Status} {d : Byte}
    (hk : arg ps 1 = (0 : LeaseNo).val) (hl : s.leases[(0 : LeaseNo)] = some x) (hh : x.holder = 0)
    (hp : x.phase = .running) (ht : s.timebases[x.timebase].run = some y) (h : s.AmendRefused ps x y st d) :
    s.AmendRefuses 0 s0 ps st d :=
  ⟨0, x, y, hk, hl, .inl ⟨.inl rfl, by rw [hl]; simp [heldBy, hh]⟩, .inr ⟨x, hl, .inl ⟨rfl, .inl hp⟩⟩, ht, h⟩

/-- The period record of TB0 in `running`. -/
def run0 : TimebaseRun := { period := 20, staged := none, holder := 0, startPending := false }

theorem amend_spelled {ps : List Byte} {bs : List Binding} {sts : List Settings}
    (h : answers (readAmendBlocks ps 0 bs) sts = true) : sts.length = bs.length ∧ AmendSpelled ps bs sts :=
  readAmendBlocks_eq_ok.1 (ok_of_answers h)

theorem timebase_amends (ps : List Nat) :
    (asks running .a .amend ps).timebases[ranL0.timebase].run = some run0 := by
  rw [asks, State.refresh_timebases, State.setLink_timebases]
  decide

/-- A count of 2 for one binding; bit 4 of the settings byte; a duty of 21 at period 20; and a gate of the STOPPED CA. -/
theorem witness_OwnChecksRefuseInOrder_amend :
    ∀ x ∈ [([0, 0, 2, 0, 8, 0, 0], Status.badArgument, (0xFF : Byte)), ([0, 0, 1, 0, 8, 0, 16], .badArgument, 0),
        ([0, 0, 1, 0, 21, 0, 0], .dutyRange, 0), ([0, 0, 1, 0, 20, 0, 1], .carrierOff, 0)],
      (asks running .a .amend x.1).Serves .amend .a (x.1.map byte) 0 s0 ∧ (asks running .a .amend x.1).Settled
        ∧ (asks running .a .amend x.1).AmendRefuses 0 s0 (x.1.map byte) x.2.1 x.2.2 := by
  have go : ∀ (ps : List Nat) {st : Status} {d : Byte}, arg (ps.map byte) 1 = (0 : LeaseNo).val →
      (asks running .a .amend ps).AmendRefused (ps.map byte) ranL0 run0 st d →
      (asks running .a .amend ps).AmendRefuses 0 s0 (ps.map byte) st d := fun ps _ _ h0 h =>
    amend_refuses h0 (l0_running ..) rfl rfl (timebase_amends ps) h
  intro x hx
  simp only [List.mem_cons, List.not_mem_nil, or_false] at hx
  have hsafe : ∀ sts : List Settings, ∀ z ∈ ranL0.bindings.zip sts, ∀ k, z.1.complement = some k →
      SafeLevelsPass z.2.polarity z.1.safe k.safe := by
    intro sts z hz k hk
    have := (List.of_mem_zip hz).1
    simp only [ranL0, lease0, List.mem_singleton] at this
    rw [this] at hk
    cases hk
  rcases hx with rfl | rfl | rfl | rfl
  · exact ⟨serves_of (by decide), settled_asks .., go _ (by decide) (.inl ⟨.inl (by decide), rfl, rfl⟩)⟩
  · refine ⟨serves_of (by decide), settled_asks .., go _ (by decide)
      (.inr ⟨by decide, by decide, .inl ⟨[], by decide, fun i st h => by simp at h, fun st h => ?_, rfl, rfl⟩⟩)⟩
    obtain ⟨b, hb, hs⟩ := h 0 st rfl
    have := readAmendBlock_eq_some.2 hs
    obtain rfl : single 8 = b := by simpa [ranL0, lease0] using hb
    exact absurd (this.symm.trans (by decide : readAmendBlock ([0, 0, 1, 0, 8, 0, 16].map byte) (3 + 4 * 0) (single 8) = none))
      (by simp)
  · obtain ⟨h1, h2⟩ := amend_spelled (ps := [0, 0, 1, 0, 21, 0, 0].map byte) (bs := ranL0.bindings) (sts := [plain 21])
      (by decide)
    exact ⟨serves_of (by decide), settled_asks .., go _ (by decide)
      (.inr ⟨by decide, by decide, .inr ⟨_, h1, h2,
        .inl ⟨0, ⟨⟨_, rfl, by decide⟩, fun j _ hj => absurd hj (by omega)⟩, rfl, rfl⟩⟩⟩)⟩
  · obtain ⟨h1, h2⟩ := amend_spelled (ps := [0, 0, 1, 0, 20, 0, 1].map byte) (bs := ranL0.bindings)
      (sts := [{ plain 20 with gate := some .ca }]) (by decide)
    exact ⟨serves_of (by decide), settled_asks .., go _ (by decide)
      (.inr ⟨by decide, by decide, .inr ⟨_, h1, h2,
        .inr ⟨by decide, .inr ⟨hsafe _, 0, ⟨⟨_, rfl, fun h => h .ca rfl (by decide)⟩, fun j _ hj => absurd hj (by omega)⟩, rfl,
          rfl⟩⟩⟩⟩)⟩

/-- L0 with a complement pin whose safe level, like the primary pin's, is LOW. -/
def lowPair : LeaseRecord :=
  { ranL0 with bindings := [{ single 8 with complement := some { channel := 1, pin := 1, safe := .low } }] }

/-- S0 amends it to ACTIVE_LOW. -/
def amendsLowPair : State :=
  asks { running with leases := putAt (Vector.replicate 16 none) 0 (some lowPair) } .a .amend [0, 0, 1, 0, 8, 0, 8]

/-- Step 6 of AMEND: both safe levels are the new active level. -/
theorem witness_OwnChecksRefuseInOrder_safe :
    amendsLowPair.Serves .amend .a [0, 0, 1, 0, 8, 0, 8] 0 s0 ∧ amendsLowPair.Settled
      ∧ amendsLowPair.AmendRefuses 0 s0 [0, 0, 1, 0, 8, 0, 8] .badSafe 0 := by
  obtain ⟨h1, h2⟩ := amend_spelled (ps := [0, 0, 1, 0, 8, 0, 8]) (bs := lowPair.bindings)
    (sts := [{ plain 8 with polarity := .activeLow }]) (by decide)
  refine ⟨serves_of (by decide), settled_asks .., amend_refuses (x := lowPair) (y := run0) (by decide) ?_ rfl rfl ?_
    (.inr ⟨by decide, by decide, .inr ⟨_, h1, h2,
      .inr ⟨by decide, .inl ⟨0, ⟨⟨_, rfl, fun h => h _ rfl ⟨rfl, rfl⟩⟩, fun j _ hj => absurd hj (by omega)⟩, rfl, rfl⟩⟩⟩⟩)⟩
  · rw [amendsLowPair, leases_asks, putAt_self]
  · rw [amendsLowPair, asks, State.refresh_timebases, State.setLink_timebases]
    decide

/-- RETUNE by the holder: timebase 4; periods 15 and 4096; and one of 19 below a duty of 20. -/
theorem witness_OwnChecksRefuseInOrder_retune :
    ∀ x ∈ [([0, 4, 0, 30], Status.badArgument, (0xFF : Byte)), ([0, 0, 0, 15], .badArgument, 0xFF),
        ([0, 0, 16, 0], .badArgument, 0xFF), ([0, 0, 0, 19], .dutyRange, 0)],
      (asks (leasedOn hall 0 20 .running none 0 none) .a .retune x.1).Serves .retune .a (x.1.map byte) 0 s0
        ∧ (asks (leasedOn hall 0 20 .running none 0 none) .a .retune x.1).RetuneRefused 0 s0 (x.1.map byte) x.2.1 x.2.2 := by
  have hl : ∀ ps, (asks (leasedOn hall 0 20 .running none 0 none) .a .retune ps).leases[(0 : LeaseNo)]
      = some (lease0 0 20 .running) := fun ps => by rw [leases_asks, leases_leasedOn, putAt_self]
  have ht : ∀ ps, (asks (leasedOn hall 0 20 .running none 0 none) .a .retune ps).timebases[(0 : TimebaseNo)].run
      = some run0 := fun ps => by
    rw [asks, State.refresh_timebases, State.setLink_timebases]; decide
  have hm : ∀ ps, (asks (leasedOn hall 0 20 .running none 0 none) .a .retune ps).MayRetune 0 s0 0 := fun ps =>
    .inr ⟨run0, ht ps, (congrArg (heldBy · 0) (hl ps)).trans rfl⟩
  intro x hx
  simp only [List.mem_cons, List.not_mem_nil, or_false] at hx
  rcases hx with rfl | rfl | rfl | rfl <;> refine ⟨serves_of (by decide), ?_⟩
  · exact .inl ⟨by decide, rfl, rfl⟩
  · exact .inr ⟨0, by decide, .inr (.inr (.inl ⟨hm _, by rw [ht]; simp, .inl (by decide), rfl, rfl⟩))⟩
  · exact .inr ⟨0, by decide, .inr (.inr (.inl ⟨hm _, by rw [ht]; simp, .inr (by decide), rfl, rfl⟩))⟩
  · exact .inr ⟨0, by decide, .inr (.inr (.inr ⟨hm _, by rw [ht]; simp, by decide, by decide, 0,
      ⟨_, hl _, rfl, .inl ⟨_, .head _, by decide⟩⟩, fun j hj => absurd hj (by simp), rfl, rfl⟩))⟩

/-- RETUNE of an IDLE timebase: by an ordinary session NOT_PERIOD_HOLDER, by the supervisor WRONG_STATE; and one of a
running timebase by another session than its holder. -/
theorem witness_OwnChecksRefuseInOrder_holder :
    (asks hall .a .retune [0, 0, 0, 30]).Serves .retune .a [0, 0, 0, 30] 0 s0
      ∧ (asks hall .a .retune [0, 0, 0, 30]).RetuneRefused 0 s0 [0, 0, 0, 30] .notPeriodHolder 0xFF
      ∧ (asks hall .b .retune [1, 0, 0, 30]).Serves .retune .b [1, 0, 0, 30] 1 s1
      ∧ (asks hall .b .retune [1, 0, 0, 30]).RetuneRefused 1 s1 [1, 0, 0, 30] .wrongState 0
      ∧ (asks (leasedOn hall 1 8 .running none 0 none) .a .retune [0, 0, 0, 30]).RetuneRefused 0 s0 [0, 0, 0, 30]
        .notPeriodHolder 0 := by
  have ht : (asks (leasedOn hall 1 8 .running none 0 none) .a .retune [0, 0, 0, 30]).timebases[(0 : TimebaseNo)].run
      = some run0 := by decide
  have hi : (asks hall .a .retune [0, 0, 0, 30]).timebases[(0 : TimebaseNo)].run = none := by decide
  refine ⟨serves_of (by decide), .inr ⟨0, by decide, .inl ⟨?_, rfl, by rw [hi]⟩⟩, serves_of (by decide),
    .inr ⟨0, by decide, .inr (.inl ⟨.inl rfl, by decide, rfl, rfl⟩)⟩, .inr ⟨0, by decide, .inl ⟨?_, rfl, by rw [ht]; rfl⟩⟩⟩
  · rintro (h | ⟨y, hy, -⟩)
    · cases h
    · rw [hi] at hy; cases hy
  · rintro (h | ⟨y, hy, h⟩)
    · cases h
    · rw [ht] at hy
      injection hy with hy
      subst hy
      exact absurd h (by decide)

theorem hall_supervised (l : Link) (c : Command) (ps : List Nat) : (asks hall l c ps).isSupervisor 1 = true := by
  rw [State.isSupervisor, asks, State.refresh_sessions, State.setLink_sessions]
  exact (by decide : hall.sessions[(1 : SessionNo)].any (fun r => r.cls == SessionClass.supervisor) = true)

/-- The four configuration commands from the ordinary S0 beside a supervisor. -/
theorem witness_OwnChecksRefuseInOrder_permission :
    ∀ x ∈ [(Command.setPinRest, [0, 0, 0]), (.setCarrier, [0, 1, 0, 0]), (.setFaultEdge, [0, 0, 0]),
        (.setSupplyLevel, [0, 0])],
      (asks hall .a x.1 x.2).Serves x.1 .a (x.2.map byte) 0 s0
        ∧ (asks hall .a x.1 x.2).OwnChecksRefuse x.1 s0 (x.2.map byte) .notSupervisor 0 := by
  have hm : ∀ c ps, ¬ (asks hall .a c ps).MayConfigure s0 := by
    rintro c ps (h | h)
    · exact absurd ((hall_supervised .a c ps).symm.trans (h 1)) (by simp)
    · cases h
  intro x hx
  simp only [List.mem_cons, List.not_mem_nil, or_false] at hx
  rcases hx with rfl | rfl | rfl | rfl <;>
    exact ⟨serves_of (by decide), .inl ⟨by decide, .inl ⟨hm _ _, rfl, rfl⟩⟩⟩

/-- Fields one past their ranges: pin 24, rest level 3, carrier 3, divider 1024, input 2, edge 2 and threshold 8. -/
theorem witness_OwnChecksRefuseInOrder_configuration :
    ∀ x ∈ [(Command.setPinRest, [1, 24, 0]), (.setPinRest, [1, 0, 3]), (.setCarrier, [1, 3, 0, 0]),
        (.setCarrier, [1, 1, 4, 0]), (.setFaultEdge, [1, 2, 0]), (.setFaultEdge, [1, 0, 2]), (.setSupplyLevel, [1, 8])],
      (asks hall .b x.1 x.2).Serves x.1 .b (x.2.map byte) 1 s1
        ∧ (asks hall .b x.1 x.2).OwnChecksRefuse x.1 s1 (x.2.map byte) .badArgument 0xFF := by
  intro x hx
  simp only [List.mem_cons, List.not_mem_nil, or_false] at hx
  rcases hx with rfl | rfl | rfl | rfl | rfl | rfl | rfl <;>
    exact ⟨serves_of (by decide), .inl ⟨by decide, .inr ⟨.inr rfl, .inl ⟨by decide, rfl, rfl⟩⟩⟩⟩

/-- CA with two bindings gated on it. -/
def gatedTwice : State := { hall with carrierA := { divider := 1, high := false, inUse := 2 } }

/-- SET CARRIER of a carrier in use and SET FAULT EDGE of an input with a subscriber. -/
theorem witness_OwnChecksRefuseInOrder_uses :
    (asks gatedTwice .b .setCarrier [1, 1, 0, 5]).Serves .setCarrier .b [1, 1, 0, 5] 1 s1
      ∧ (asks gatedTwice .b .setCarrier [1, 1, 0, 5]).OwnChecksRefuse .setCarrier s1 [1, 1, 0, 5] .inUse 2
      ∧ (asks running .b .setFaultEdge [1, 0, 1]).Serves .setFaultEdge .b [1, 0, 1] 1 s1
      ∧ (asks running .b .setFaultEdge [1, 0, 1]).OwnChecksRefuse .setFaultEdge s1 [1, 0, 1] .inUse 1 :=
  ⟨serves_of (by decide),
    .inl ⟨by decide, .inr ⟨.inr rfl, .inr (.inl ⟨rfl, by decide, rfl, .ca, by decide, by decide, by decide⟩)⟩⟩,
    serves_of (by decide),
    .inl ⟨by decide, .inr ⟨.inr rfl, .inr (.inr ⟨rfl, by decide, rfl, .flt0, by decide, by decide, by decide⟩)⟩⟩⟩

/-- HALT ALL and RELEASE HALT from an ordinary session; and a mask, a session, a timebase and a pin one past the last. -/
theorem witness_OwnChecksRefuseInOrder_fields :
    ∀ x ∈ [(Command.haltAll, [0], Status.notSupervisor, (0 : Byte)), (.releaseHalt, [0], .notSupervisor, 0),
        (.readFaults, [0, 8], .badArgument, 0xFF), (.querySession, [0, 8], .badArgument, 0xFF),
        (.listLeases, [0, 8], .badArgument, 0xFF), (.queryTimebase, [0, 4], .badArgument, 0xFF),
        (.findByPin, [0, 24], .badArgument, 0xFF)],
      (asks running .a x.1 x.2.1).Serves x.1 .a (x.2.1.map byte) 0 s0
        ∧ (asks running .a x.1 x.2.1).OwnChecksRefuse x.1 s0 (x.2.1.map byte) x.2.2.1 x.2.2.2 := by
  intro x hx
  simp only [List.mem_cons, List.not_mem_nil, or_false] at hx
  rcases hx with rfl | rfl | h
  · exact ⟨serves_of (by decide), .inr (.inl ⟨by decide, rfl, rfl, rfl⟩)⟩
  · exact ⟨serves_of (by decide), .inr (.inl ⟨by decide, rfl, rfl, rfl⟩)⟩
  · rcases h with rfl | rfl | rfl | rfl | rfl <;>
      exact ⟨serves_of (by decide), .inr (.inr ⟨by decide, rfl, rfl⟩)⟩

/-- An AMEND of the RUNNING lease to a duty equal to the period. -/
def amendAsked : State := asks running .a .amend [0, 0, 1, 0, 20, 0, 0]

theorem witness_AmendStagesTheChange :
    amendAsked.Serves .amend .a [0, 0, 1, 0, 20, 0, 0] 0 s0 ∧ amendAsked.Settled ∧ amendAsked.CountsAgree
      ∧ amendAsked.leases[(0 : LeaseNo)] = some (lease0 0 8 .running)
      ∧ AmendSpelled [0, 0, 1, 0, 20, 0, 0] (lease0 0 8 .running).bindings [plain 20]
      ∧ amendAsked.timebases[(0 : TimebaseNo)].run
        = some { period := 20, staged := none, holder := 0, startPending := false }
      ∧ (∀ st ∈ [plain 20], st.duty ≤ 20) ∧ (∀ st ∈ [plain 20], st.gate = none) :=
  ⟨serves_of (by decide), settled_asks .., ⟨by decide, fun c => by cases c <;> decide⟩, by decide,
    (amend_spelled (by decide)).2, by decide, by decide, by decide⟩

/-- RETIRE IMMEDIATE of a RUNNING lease by its holder, and RETIRE AT_BOUNDARY of an ARMED one by the supervisor. -/
theorem witness_RetireFreesAtOnce :
    (asks running .a .retire [0, 0, 0, 0]).Serves .retire .a [0, 0, 0, 0] 0 s0
      ∧ (asks running .a .retire [0, 0, 0, 0]).CountsAgree
      ∧ (asks running .a .retire [0, 0, 0, 0]).leases[(0 : LeaseNo)] = some (lease0 0 8 .running)
      ∧ (asks (leased .armed none) .b .retire [1, 0, 1, 0]).Serves .retire .b [1, 0, 1, 0] 1 s1
      ∧ (asks (leased .armed none) .b .retire [1, 0, 1, 0]).CountsAgree
      ∧ (asks (leased .armed none) .b .retire [1, 0, 1, 0]).leases[(0 : LeaseNo)] = some (lease0 0 8 .armed) :=
  ⟨serves_of (by decide), ⟨by decide, fun c => by cases c <;> decide⟩, by decide, serves_of (by decide),
    ⟨by decide, fun c => by cases c <;> decide⟩, by decide⟩

theorem witness_RetireStartsADrain :
    (asks amending .a .retire [0, 0, 2, 255]).Serves .retire .a [0, 0, 2, 255] 0 s0
      ∧ (asks amending .a .retire [0, 0, 2, 255]).Settled ∧ (asks amending .a .retire [0, 0, 2, 255]).CountsAgree
      ∧ (asks amending .a .retire [0, 0, 2, 255]).leases[(0 : LeaseNo)]
        = some (lease0 0 8 (.amendPending [plain 5]))
      ∧ arg [0, 0, 2, 255] 2 = 2 ∧ arg [0, 0, 2, 255] 3 = 255
      ∧ (asks running .a .retire [0, 0, 1, 0]).Serves .retire .a [0, 0, 1, 0] 0 s0
      ∧ (asks running .a .retire [0, 0, 1, 0]).CountsAgree :=
  ⟨serves_of (by decide), settled_asks .., ⟨by decide, fun c => by cases c <;> decide⟩, by decide, by decide, by decide,
    serves_of (by decide), ⟨by decide, fun c => by cases c <;> decide⟩⟩

/-! ## Witnesses: timebases -/

theorem witness_RetuneStagesThePeriod :
    (asks running .a .retune [0, 0, 0x0F, 0xFF]).Serves .retune .a [0, 0, 0x0F, 0xFF] 0 s0
      ∧ (asks running .a .retune [0, 0, 0x0F, 0xFF]).Settled ∧ arg2 [0, 0, 0x0F, 0xFF] 2 = 4095
      ∧ (asks running .a .retune [0, 0, 0x0F, 0xFF]).timebases[(0 : TimebaseNo)].run
        = some { period := 20, staged := none, holder := 0, startPending := false }
      ∧ heldBy (asks running .a .retune [0, 0, 0x0F, 0xFF]).leases[(0 : LeaseNo)] 0 = true
      ∧ ∀ k : LeaseNo, leaseHas (asks running .a .retune [0, 0, 0x0F, 0xFF]).leases[k] fun q => q.timebase = 0 →
        (∀ b ∈ q.bindings, b.active.duty ≤ arg2 [0, 0, 0x0F, 0xFF] 2)
          ∧ ∀ st ∈ q.stagedChange, st.duty ≤ arg2 [0, 0, 0x0F, 0xFF] 2 := by
  refine ⟨serves_of (by decide), settled_asks .., by decide, by decide, by decide, fun k => ?_⟩
  rw [leases_asks, leases_running]
  exact leaseHas_first (fun _ => by decide) k

theorem witness_CountLowersTheCounter : running.resetHeld = false
    ∧ (leasedOn hall 0 8 .running none 19 none).timebases[(0 : TimebaseNo)].run
      = some { period := 20, staged := none, holder := 0, startPending := false }
    ∧ (leasedOn hall 0 8 .running none 19 none).timebases[(0 : TimebaseNo)].counter ≠ 0
    ∧ (leasedOn hall 0 8 .running none 1 none).timebases[(0 : TimebaseNo)].counter ≠ 0 := by decide

/-- The rules of a state with one RUNNING lease, its outputs up to date and a command waiting. -/
theorem counts_queued (c : Instr) : (queued running c).CountsAgree := by
  refine ⟨?_, ?_⟩
  · rw [show (queued running c).leases = running.leases from leases_queued ..]
    simp only [queued, State.refresh_timebases]
    show ∀ tb : TimebaseNo, running.timebases[tb].refCount = bindingsOn running.leases tb
    decide
  · rw [show (queued running c).leases = running.leases from leases_queued ..]
    simp only [queued]
    intro d
    cases d <;> simp only [State.carrier, State.refresh_carrierA, State.refresh_carrierB] <;> decide

theorem shaped_queued (c : Instr) : (queued running c).LeasesShaped := fun n => by
  rw [leases_queued, leases_running]
  exact leaseHas_first ⟨by decide, by decide, trivial⟩ n

theorem timebases_queued (c : Instr) (tb : TimebaseNo) :
    (queued running c).timebases[tb] = if tb = 0 then tb0 0 none else Timebase.reset := by
  have h : (queued running c).timebases = putAt (Vector.replicate 4 Timebase.reset) 0 (tb0 0 none) := by
    simp only [queued, State.refresh_timebases, running, leased, leasedOn]
  rw [h]
  by_cases ht : tb = 0
  · subst ht; simp
  · rw [putAt_other _ _ ht, if_neg ht]; simp

theorem holders_queued (c : Instr) : (queued running c).HoldersAgree := fun tb => by
  rw [timebases_queued, leases_queued]
  by_cases ht : tb = 0
  · subst ht
    exact ⟨by decide, by decide⟩
  · rw [if_neg ht]; rfl

theorem witness_BoundaryReloadsTheTimebase :
    (queued running (.count 0)).TakesBoundary (.count 0) 0
        { period := 20, staged := none, holder := 0, startPending := false }
      ∧ (queued running (.count 0)).CountsAgree ∧ (queued running (.count 0)).LeasesShaped
      ∧ (queued running (.count 0)).HoldersAgree :=
  ⟨⟨by decide, by decide, .inr ⟨.inr rfl, rfl, by decide⟩⟩, counts_queued _, shaped_queued _, holders_queued _⟩

/-- TB0 just started by L0, its start boundary pending. -/
def startingRun : TimebaseRun := { period := 20, staged := none, holder := 0, startPending := true }

/-- L0 ARMED on it. -/
def starting : State :=
  { leased .armed none with
    timebases := putAt (Vector.replicate 4 Timebase.reset) 0 { tb0 0 none with run := some startingRun } }

theorem witness_BoundaryMovesItsLeases :
    (queued running (.boundary 0)).TakesBoundary (.boundary 0) 0
        { period := 20, staged := none, holder := 0, startPending := false }
      ∧ (queued running (.boundary 0)).CountsAgree ∧ (queued running (.boundary 0)).LeasesShaped
      ∧ starting.TakesBoundary (.startBoundary 0) 0 startingRun :=
  ⟨⟨by decide, by decide, .inr ⟨.inl rfl, rfl, by decide⟩⟩, counts_queued _, shaped_queued _,
    ⟨by decide, by decide, .inl ⟨rfl, rfl⟩⟩⟩

/-! ## Witnesses: trips -/

/-- L0 TRIPPED with every cause, and the latches of FLT0 and HALT set. -/
def clearing (causes : SourceSet) (retiring : Bool) : State :=
  asks { leased (.tripped causes retiring) none with
    trip := { State.reset.trip with haltLatch := true } } .a .clearTrip [0, 0]

/-- A cause that stays; causes that all go, the lease ARMED; and the same with retire pending, the lease freed. -/
theorem witness_ClearTripRemovesCauses :
    ∀ x ∈ [({ SourceSet.empty with halt := true, lapse := true }, false), ({ SourceSet.empty with lapse := true }, false),
        ({ SourceSet.empty with flt0 := true }, true)],
      (clearing x.1 x.2).Serves .clearTrip .a [0, 0] 0 s0 ∧ (clearing x.1 x.2).CountsAgree ∧ (clearing x.1 x.2).Settled
        ∧ (clearing x.1 x.2).leases[(0 : LeaseNo)] = some (lease0 0 8 (.tripped x.1 x.2)) := by
  intro x hx
  simp only [List.mem_cons, List.not_mem_nil, or_false] at hx
  rcases hx with rfl | rfl | rfl <;>
    exact ⟨serves_of (by decide), ⟨by decide, fun c => by cases c <;> decide⟩, settled_asks .., by decide⟩

theorem witness_ReadFaultsClearsIdleLatches :
    (asks running .a .readFaults [0, 7]).Serves .readFaults .a [0, 7] 0 s0
      ∧ (asks running .a .readFaults [0, 7]).Settled ∧ arg [0, 7] 1 < 8 :=
  ⟨serves_of (by decide), settled_asks .., by decide⟩

theorem witness_HaltAllTripsEveryLease :
    (asks running .b .haltAll [1]).Serves .haltAll .b [1] 1 s1 ∧ s1.cls = .supervisor
      ∧ (asks running .b .haltAll [1]).CountsAgree ∧ (asks running .b .haltAll [1]).Settled
      ∧ (asks running .b .haltAll [1]).trip.haltLatch = false
      ∧ (asks { running with trip := { State.reset.trip with haltLatch := true } } .b .haltAll [1]).trip.haltLatch
        = true :=
  ⟨serves_of (by decide), rfl, ⟨by decide, fun c => by cases c <;> decide⟩, settled_asks .., by decide, by decide⟩

theorem witness_ReleaseHaltClearsTheLatch :
    (asks running .b .releaseHalt [1]).Serves .releaseHalt .b [1] 1 s1 ∧ (asks running .b .releaseHalt [1]).Settled
      ∧ s1.cls = .supervisor := ⟨serves_of (by decide), settled_asks .., rfl⟩

/-- FLT1, which L0 does not subscribe to, under RISING while it is seen HIGH. -/
theorem witness_SetFaultEdgeTakesTheConditionAfresh :
    (asks running .b .setFaultEdge [1, 1, 1]).Serves .setFaultEdge .b [1, 1, 1] 1 s1
      ∧ (asks running .b .setFaultEdge [1, 1, 1]).Settled ∧ s1.cls = .supervisor
      ∧ (∀ k : LeaseNo, leaseHas (asks running .b .setFaultEdge [1, 1, 1]).leases[k]
          fun x => x.subscription.has .flt1 = false)
      ∧ ((asks running .b .setFaultEdge [1, 1, 1]).trip.input .flt1).seen = .high := by
  refine ⟨serves_of (by decide), settled_asks .., rfl, fun k => ?_, by decide⟩
  rw [leases_asks, leases_running]
  exact leaseHas_first (by decide) k

/-- Codes 4, above the supply of 3300 mV, and 3, whose upper level it has passed; and 3100 mV, between code 3's. -/
theorem witness_SetSupplyLevelComparesAgain :
    (asks running .b .setSupplyLevel [1, 4]).Serves .setSupplyLevel .b [1, 4] 1 s1
      ∧ (asks running .b .setSupplyLevel [1, 4]).CountsAgree ∧ (asks running .b .setSupplyLevel [1, 4]).Settled
      ∧ (asks running .b .setSupplyLevel [1, 4]).supplyMv < Config.thresholdMv 4
      ∧ (asks running .b .setSupplyLevel [1, 3]).Serves .setSupplyLevel .b [1, 3] 1 s1
      ∧ Config.thresholdMv 3 + 100 ≤ (asks running .b .setSupplyLevel [1, 3]).supplyMv
      ∧ ¬ 3100 < Config.thresholdMv 3 ∧ ¬ Config.thresholdMv 3 + 100 ≤ 3100 :=
  ⟨serves_of (by decide), ⟨by decide, fun c => by cases c <;> decide⟩, settled_asks .., by decide,
    serves_of (by decide), by decide, by decide, by decide⟩

theorem witness_FaultInputChangeMovesTheInputAlone : (running.trip.input .flt0).level = .high := by decide

/-- An input LOW and seen HIGH, latch clear and latch set, for the edge; one HIGH and seen LOW for the release. -/
def faulted (level seen : LineLevel) (latch : Bool) : State :=
  (running.setInput .flt0
    { edge := .falling, level := level, seen := seen, asserted := seen = .low, latch := latch }).refresh

theorem witness_FaultEdgeAndRelease : ∀ x ∈ [(LineLevel.low, LineLevel.high, false), (.low, .high, true),
      (.high, .low, true)],
    (faulted x.1 x.2.1 x.2.2).resetHeld = false ∧ (faulted x.1 x.2.1 x.2.2).CountsAgree
      ∧ (faulted x.1 x.2.1 x.2.2).Settled
      ∧ ((faulted x.1 x.2.1 x.2.2).trip.input .flt0).level ≠ ((faulted x.1 x.2.1 x.2.2).trip.input .flt0).seen := by
  intro x hx
  simp only [List.mem_cons, List.not_mem_nil, or_false] at hx
  rcases hx with rfl | rfl | rfl <;>
    exact ⟨by decide, ⟨by decide, fun c => by cases c <;> decide⟩, State.settled_refresh _, by decide⟩

/-- The supply at 3300 mV under code 3: falls to 2749, 2750, 3049 and 3050 mV, and rises from 3000 to 3149 and 3150. -/
theorem witness_SupplyCrossesItsLevels :
    watched.refresh.resetHeld = false ∧ watched.refresh.CountsAgree ∧ watched.refresh.Settled
      ∧ 3050 = Config.thresholdMv watched.refresh.trip.threshold
      ∧ (∀ mv ∈ [2749, 2750, 3049, 3050], mv < watched.refresh.supplyMv)
      ∧ watched.refresh.trip.supplyLow = false ∧ watched.refresh.trip.supplyLatch = false
      ∧ (∀ mv ∈ [3149, 3150], ({ watched with supplyMv := 3000 }).refresh.supplyMv < mv) :=
  ⟨by decide, ⟨by decide, fun c => by cases c <;> decide⟩, State.settled_refresh _, by decide, by decide, by decide,
    by decide, by decide⟩

/-! ## Witnesses: pins, carriers and links -/

/-- The channel map, the engines and the pin table of `running` say what its one lease says, in any state that holds
them. -/
theorem tables_refresh {s : State} (h1 : s.leases = running.leases) (h2 : s.channels = running.channels)
    (h3 : s.engines = running.engines) (h4 : s.pins = running.pins) : s.refresh.TablesAgree := by
  have hl : s.refresh.leases = putAt (Vector.replicate 16 none) 0 (some (lease0 0 8 .running)) := by
    rw [State.refresh_leases, h1, leases_running]
  have hc : s.refresh.channels = putAt (Vector.replicate 12 none) 0 (some place0) := by
    rw [State.refresh_channels, h2]
    simp only [running, leased, leasedOn]
  have he : ∀ k : ChannelNo, ∃ o, s.refresh.engines[k]
      = if k = 0 then .generating { place := place0, active := plain 8, staged := none } none o else .unused := by
    intro k
    simp only [Fin.getElem_fin, State.engines_refresh, h3, running, leased, leasedOn, Phase.showsSafe, getElem_putAt]
    by_cases hk : k = 0
    · subst hk; exact ⟨_, rfl⟩
    · have : ¬ k.val = 0 := fun h => hk (Fin.ext h)
      refine ⟨{ inWindow := false, carrier := none }, ?_⟩
      simp [hk, this, State.engineNow]
  have hp : ∀ p : PinNo, s.refresh.pins[p].owner
      = if p = 0 then some { place := place0, drive := .pushPull } else none := by
    intro p
    simp only [Fin.getElem_fin, (State.pin_refresh_kept _ _ p.isLt).1, h4, running, leased, leasedOn, getElem_putAt]
    by_cases hq : p = 0
    · subst hq; rfl
    · have : ¬ p.val = 0 := fun h => hq (Fin.ext h)
      simp [hq, this, PinEntry.reset]
  refine ⟨fun n => ?_, ⟨fun k p hk => ?_, fun q o hq => ?_⟩, fun k => ?_⟩
  · rw [hl]
    by_cases hn : n = 0
    · subst hn
      rw [putAt_self]
      intro x hx h hh
      simp only [lease0, single, List.zipIdx_cons, List.zipIdx_nil, List.mem_singleton] at hx
      subst hx
      simp only [Binding.halves, Option.map_none, Option.toList_none, List.mem_singleton] at hh
      subst hh
      obtain ⟨o, ho⟩ := he 0
      rw [if_pos rfl] at ho
      refine ⟨?_, ?_, ?_⟩
      · rw [hc, putAt_self]; rfl
      · rw [ho]; exact ⟨rfl, rfl, rfl⟩
      · rw [hp, if_pos rfl]; rfl
    · rw [putAt_other _ _ hn]; simp [leaseHas]
  · rw [hc] at hk
    by_cases h0 : k = 0
    · subst h0
      rw [putAt_self] at hk
      injection hk with hk
      subst hk
      refine ⟨lease0 0 8 .running, single 8, ?_, rfl, (.primary, 0, 0), ?_, rfl, rfl⟩
      · rw [hl]; exact putAt_self ..
      · simp [Binding.halves, single]
    · rw [putAt_other _ _ h0] at hk; simp at hk
  · rw [hp] at hq
    by_cases h0 : q = 0
    · subst h0
      rw [if_pos rfl] at hq
      injection hq with hq
      subst hq
      refine ⟨lease0 0 8 .running, single 8, ?_, rfl, rfl, (.primary, 0, 0), ?_, rfl, rfl⟩
      · rw [hl]; exact putAt_self ..
      · simp [Binding.halves, single]
    · rw [if_neg h0] at hq; exact absurd hq (by simp)
  · obtain ⟨o, ho⟩ := he k
    rw [ho, hc]
    by_cases h0 : k = 0
    · subst h0; rw [if_pos rfl, putAt_self]; rfl
    · rw [if_neg h0, putAt_other _ _ h0]; simp [Engine.place?]

theorem tables_asks (l : Link) (c : Command) (ps : List Nat) : (asks running l c ps).TablesAgree :=
  tables_refresh (State.setLink_leases ..) (State.setLink_channels ..) (State.setLink_engines ..)
    (State.setLink_pins ..)

theorem tables_queued (c : Instr) : (queued running c).TablesAgree := tables_refresh rfl rfl rfl rfl

theorem witness_SetPinRestWritesTheRestLevel :
    (asks running .b .setPinRest [1, 23, 2]).Serves .setPinRest .b [1, 23, 2] 1 s1
      ∧ (asks running .b .setPinRest [1, 23, 2]).Settled ∧ (asks running .b .setPinRest [1, 23, 2]).TablesAgree
      ∧ (asks running .b .setPinRest [1, 0, 0]).Serves .setPinRest .b [1, 0, 0] 1 s1
      ∧ (asks running .b .setPinRest [1, 0, 0]).TablesAgree :=
  ⟨serves_of (by decide), settled_asks .., tables_asks .., serves_of (by decide), tables_asks ..⟩

theorem witness_SetCarrierRestartsTheCarrier :
    (asks running .b .setCarrier [1, 2, 3, 0xFF]).Serves .setCarrier .b [1, 2, 3, 0xFF] 1 s1
      ∧ arg2 [1, 2, 3, 0xFF] 2 ≤ 1023 ∧ ((asks running .b .setCarrier [1, 2, 3, 0xFF]).carrier .cb).inUse = 0 :=
  ⟨serves_of (by decide), by decide, by decide⟩

theorem witness_CarrierEdgeTogglesTheLevel :
    hall.resetHeld = false
      ∧ (({ hall with carrierA := { divider := 1, high := false, inUse := 0 } } : State).carrier .ca).divider ≠ 0
      ∧ (hall.carrier .ca).divider = 0 ∧ (queued hall (.carrierEdge .ca)).Settled :=
  ⟨by decide, by decide, by decide, settled_queued ..⟩

/-- `hall` with its outputs up to date. -/
def settledHall : State := hall.refresh

theorem witness_CommandFrameIsQueued :
    settledHall.resetHeld = false ∧ settledHall.Settled ∧ (settledHall.link .a).transaction = none
      ∧ (settledHall.link .a).slot = .idle ∧ 1 ≤ (0x02 : Byte).toNat ∧ (0x02 : Byte).toNat ≤ 0x3F
      ∧ byteSum (0x02 :: byte [(0 : Byte)].length :: ([0] ++ [0xFD])) = 0 :=
  ⟨by decide, State.settled_refresh _, by decide, by decide, by decide, by decide, by decide⟩

/-- One byte; a length of 49; a frame one byte short, one long, and one whose check byte is wrong; and a slot QUEUED
and a slot DONE that refuse. -/
theorem witness_CommandFrameFaultsAndRefusals :
    FrameFault 2 [] 3 ∧ FrameFault 2 [49] 3 ∧ FrameFault 2 [1, 0] 1 ∧ FrameFault 2 [1, 0, 0xFD, 0] 2
      ∧ FrameFault 2 [1, 0, 0xFC] 4 ∧ (settledHall.link .b).slot = .idle ∧ settledHall.Settled
      ∧ ((asks hall .a .renew [0]).link .a).slot = .queued { code := 0x02, params := [0] }
      ∧ (({ hall with linkA := { LinkPort.reset with slot := .done (goodResponse []) } } : State).refresh.link .a).slot
        = .done (goodResponse []) :=
  ⟨.inl ⟨rfl, rfl⟩, .inr ⟨49, [], rfl, .inl ⟨by decide, rfl⟩⟩, .inr ⟨1, [0], rfl, .inr (.inl ⟨by decide, by decide, rfl⟩)⟩,
    .inr ⟨1, [0, 0xFD, 0], rfl, .inr (.inr (.inl ⟨by decide, by decide, rfl⟩))⟩,
    .inr ⟨1, [0, 0xFC], rfl, .inr (.inr (.inr ⟨by decide, by decide, by decide, rfl⟩))⟩,
    by decide, State.settled_refresh _, by decide, by decide⟩

/-- A response of one data byte and its check byte F8h, and a slot that is IDLE. -/
theorem witness_FetchSendsTheResponse :
    (({ hall with linkA := { LinkPort.reset with slot := .done (goodResponse [7]) } } : State).refresh.link .a).slot
        = .done (goodResponse [7])
      ∧ byteSum ([(goodResponse [7]).status.code, (goodResponse [7]).detail, byte (goodResponse [7]).data.length]
          ++ (goodResponse [7]).data ++ [0xF8]) = 0
      ∧ (settledHall.link .a).slot = .idle ∧ settledHall.Settled ∧ (settledHall.link .a).transaction = none :=
  ⟨by decide, by decide, by decide, State.settled_refresh _, by decide⟩

theorem witness_ClearLinkDropsTheSlot :
    running.refresh.resetHeld = false ∧ running.refresh.Settled ∧ (running.refresh.link .a).transaction = none
      ∧ running.refresh.CountsAgree ∧ [(1 : Byte)].head? = some 1 ∧ [(0 : Byte)].head? = some 0
      ∧ [(2 : Byte)].head? ≠ some 0 ∧ [(2 : Byte)].head? ≠ some 1 :=
  ⟨by decide, State.settled_refresh _, by decide, ⟨by decide, fun c => by cases c <;> decide⟩, by decide, by decide,
    by decide, by decide⟩

theorem witness_IgnoredTransactionChangesNothing :
    settledHall.resetHeld = false ∧ settledHall.Settled ∧ (settledHall.link .a).transaction = none
      ∧ (0x40 ≤ (0x40 : Byte).toNat ∧ (0x40 : Byte) ≠ 0x80 ∧ (0x40 : Byte) ≠ 0xC0) :=
  ⟨by decide, State.settled_refresh _, by decide, by decide⟩

/-- Link A with a slot, in a transaction that has sent the status byte 3. -/
def inTransaction (sl : Slot) (x : Transaction) : State :=
  ({ hall with linkA := { LinkPort.reset with slot := sl, transaction := some x, out := [3] } }).refresh

/-- A link with no transaction, with and without a reset held; chip select fallen over each state of a slot; a
transaction cut by a reset; a frame filled well and one filled with one byte; a FETCH of a DONE slot and one of
another; a refused frame; and a first byte of each row at the ends of its range. -/
theorem witness_TransactionsMayBeTakenInParts : (∀ sl x, (inTransaction sl x).Settled)
    ∧ settledHall.Settled ∧ (settledHall.link .a).transaction = none
    ∧ (heldAt 2750).Settled ∧ ((heldAt 2750).link .a).transaction = none
    ∧ (∀ x ∈ [(Slot.idle, Transaction.selected 1), (.queued { code := 2, params := [0] }, .selected 1),
          (.done (goodResponse []), .selected 1), (.idle, .ignored (some 1)), (.filling [2, 1, 0, 0xFD], .frame),
          (.filling [2], .frame), (.done (goodResponse [7]), .fetch true), (.idle, .fetch false),
          (.done (goodResponse []), .refusedFrame), (.idle, .ignored none)],
        (inTransaction x.1 x.2).resetHeld = false ∧ ((inTransaction x.1 x.2).link .a).transaction = some x.2
          ∧ ((inTransaction x.1 x.2).link .a).slot = x.1 ∧ ((inTransaction x.1 x.2).link .a).out ≠ [])
    ∧ ([2, 1, 0, 0xFD] : List Byte) = 2 :: 1 :: ([0] ++ [0xFD]) ∧ byteSum [2, 1, 0, 0xFD] = 0 ∧ FrameFault 2 [] 3
    ∧ byteSum ([(goodResponse [7]).status.code, (goodResponse [7]).detail, byte (goodResponse [7]).data.length]
        ++ (goodResponse [7]).data ++ [0xF8]) = 0
    ∧ transactionRow 0x01 = .frame ∧ transactionRow 0x3F = .frame ∧ transactionRow 0x80 = .fetch
    ∧ transactionRow 0xC0 = .clear ∧ transactionRow 0x40 = .ignored ∧ transactionRow 0 = .ignored :=
  ⟨fun _ _ => State.settled_refresh _, State.settled_refresh _, by decide, State.settled_refresh _, by decide, by decide,
    by decide, by decide, .inl ⟨rfl, rfl⟩, by decide, by decide, by decide, by decide, by decide, by decide, by decide⟩

/-! ## Witnesses: rules that every step keeps -/

theorem witness_StepsKeepTheCounts : (queued running (.count 0)).CountsAgree
    ∧ ∃ t, step (queued running (.count 0)) = .next t := ⟨counts_queued _, _, rfl⟩

theorem safe_queued (c : Instr) : (queued running c).SafePairsFit := fun n => by
  rw [leases_queued, leases_running]
  refine leaseHas_first (fun x hx k hk => ?_) n
  simp only [lease0, single, List.zipIdx_cons, List.zipIdx_nil, List.mem_singleton] at hx
  subst hx
  exact absurd hk (by simp)

theorem gates_queued (c : Instr) : (queued running c).GatesFit := fun n => by
  rw [leases_queued, leases_running]
  refine leaseHas_first (fun x hx => ?_) n
  simp only [lease0, single, List.zipIdx_cons, List.zipIdx_nil, List.mem_singleton] at hx
  subst hx
  exact ⟨by decide, fun st hst => absurd hst (by simp [lease0, LeaseRecord.stagedAt])⟩

theorem witness_StepsKeepTheLeaseShapes : (queued running (.count 0)).LeasesShaped
    ∧ (queued running (.count 0)).SafePairsFit ∧ (queued running (.count 0)).GatesFit
    ∧ ∃ t, step (queued running (.count 0)) = .next t :=
  ⟨shaped_queued _, safe_queued _, gates_queued _, _, rfl⟩

theorem witness_StepsKeepThePeriodHolders : (queued running (.count 0)).CountsAgree
    ∧ (queued running (.count 0)).LeasesShaped ∧ (queued running (.count 0)).HoldersAgree
    ∧ ∃ t, step (queued running (.count 0)) = .next t :=
  ⟨counts_queued _, shaped_queued _, holders_queued _, _, rfl⟩

theorem witness_StepsKeepTheDuties : (queued running (.count 0)).CountsAgree
    ∧ (queued running (.count 0)).LeasesShaped ∧ (queued running (.count 0)).HoldersAgree
    ∧ (queued running (.count 0)).TimebasesInRange ∧ (queued running (.count 0)).DutiesFit
    ∧ ∃ t, step (queued running (.count 0)) = .next t := by
  refine ⟨counts_queued _, shaped_queued _, holders_queued _, fun tb => ?_, fun n => ?_, _, rfl⟩
  · rw [timebases_queued]
    by_cases ht : tb = 0
    · subst ht; exact ⟨by decide, by decide, by decide, by decide, by decide⟩
    · rw [if_neg ht]; rfl
  · rw [leases_queued, leases_running]
    refine leaseHas_first ?_ n
    rw [timebases_queued]
    exact ⟨by decide, by decide⟩

theorem witness_StepsKeepTheLatchesHeld : (queued running (.count 0)).LatchesHeld
    ∧ ∃ t, step (queued running (.count 0)) = .next t := by
  refine ⟨⟨fun n => ?_, fun h => absurd h (by decide)⟩, _, rfl⟩
  rw [leases_queued, leases_running]
  exact leaseHas_first (by decide) n

theorem witness_StepsKeepTheSessionRules : (queued running (.count 0)).OneSupervisor
    ∧ (queued running (.count 0)).HoldingsAgree ∧ ∃ t, step (queued running (.count 0)) = .next t := by
  have hs : ∀ n : SessionNo, (queued running (.count 0)).sessions[n]
      = if n = 1 then some s1 else if n = 0 then some s0 else none := by decide
  refine ⟨fun n hn => ⟨fun r hr => ?_, ?_⟩, ⟨fun n => ?_, fun n r hr _ => ?_⟩, _, rfl⟩
  · rw [hs] at hr
    revert hn
    fin_cases n <;> first | (intro hn; exact absurd hn (by decide)) | skip
    intro _
    injection hr with hr
    rw [← hr]; rfl
  · revert hn; revert n; decide
  · rw [leases_queued, leases_running]
    exact leaseHas_first (by decide) n
  · rw [hs] at hr
    revert hr
    fin_cases n <;> intro hr <;> first | (injection hr with hr; subst hr; decide) | exact absurd hr (by simp)

theorem witness_StepsKeepTheTables : (queued running (.count 0)).TablesAgree
    ∧ (queued running (.count 0)).CountsAgree ∧ (queued running (.count 0)).LeasesShaped
    ∧ (queued running (.count 0)).HoldersAgree ∧ ∃ t, step (queued running (.count 0)) = .next t :=
  ⟨tables_queued _, counts_queued _, shaped_queued _, holders_queued _, _, rfl⟩

/-- P0 is in window and HIGH at counter 0, CH0 generates it, and neither link has anything to tell. -/
theorem shows_queued : (queued running (.count 0)).ShowsByRules := by
  refine ⟨by decide, fun n => ?_, fun c u e o h => ?_, fun l => ?_⟩
  · rw [leases_queued, leases_running]
    refine leaseHas_first (fun b hb h hh => ?_) n
    simp only [lease0, List.mem_singleton] at hb
    subst hb
    simp only [Binding.halves, single, Option.map_none, Option.toList_none, List.mem_singleton] at hh
    subst hh
    exact ⟨fun _ => by decide, fun hw => absurd (by decide : (queued running (.count 0)).timebases[(0 : TimebaseNo)].counter < 8) hw⟩
  · have he : ∀ k : ChannelNo, (queued running (.count 0)).engines[k]
        = if k = 0 then .generating { place := place0, active := plain 8, staged := none } none
            { inWindow := true, carrier := none } else .unused := by decide
    rw [he] at h
    split at h
    · injection h with h1 h2 h3
      subst h1 h3
      refine ⟨rfl, ?_⟩
      rw [leases_queued, leases_running]
      exact leaseHas_first ⟨fun _ => by show _ < _; decide, fun _ => rfl⟩ 0
    · cases h
  · have hs : ∀ n : SessionNo, (queued running (.count 0)).sessions[n]
        = if n = 1 then some s1 else if n = 0 then some s0 else none := by decide
    refine ⟨fun h => absurd h (by cases l <;> decide), ?_⟩
    rintro ⟨-, ⟨r, hr⟩ | ⟨n, r, k, hr, -, hk⟩⟩
    · rw [show ((queued running (.count 0)).link l).slot = .idle by cases l <;> decide] at hr
      cases hr
    · rw [hs] at hr
      split at hr
      · injection hr with hr; subst hr; exact absurd (by simp [s1, record]) hk
      · split at hr
        · injection hr with hr; subst hr; exact absurd (by simp [s0, record]) hk
        · cases hr

theorem witness_OutputsShowWhatTheRulesGive : (queued running (.count 0)).CountsAgree
    ∧ (queued running (.count 0)).LeasesShaped ∧ (queued running (.count 0)).HoldersAgree
    ∧ (queued running (.count 0)).TablesAgree ∧ (queued running (.count 0)).SafePairsFit
    ∧ (queued running (.count 0)).GatesFit ∧ (queued running (.count 0)).ShowsByRules
    ∧ (queued running (.count 0)).Settled ∧ (queued running (.count 0)).ResetLineHeld
    ∧ ∃ t, step (queued running (.count 0)) = .next t :=
  ⟨counts_queued _, shaped_queued _, holders_queued _, tables_queued _, safe_queued _, gates_queued _, shows_queued,
    settled_queued .., (fun h => by cases h), _, rfl⟩

/-! ## Witness: a complementary binding -/

/-- The first example of R92: duty 8 with dead band 2, ACTIVE_HIGH, on CH0 and CH1, P0 and P1, safe levels LOW. -/
def pair : Binding :=
  { channel := 0, pin := 0, active := { plain 8 with deadBand := 2 }, drive := .pushPull, safe := .low,
    complement := some { channel := 1, pin := 1, safe := .low } }

/-- The place of the complement half of L0's binding. -/
def place1 : Place := { lease := 0, index := 0, role := .complement }

/-- The engine of one role of that binding, GENERATING at period 20. -/
def pairEngine (role : Role) : Engine :=
  .generating { place := { lease := 0, index := 0, role := role }, active := pair.active, staged := none }
    (edgesFor role pair.active 20) { inWindow := false, carrier := none }

/-- L0 RUNNING with that one binding, its outputs up to date. -/
def paired : State :=
  State.refresh { hall with
    leases := putAt (Vector.replicate 16 none) 0 (some { lease0 0 8 .running with bindings := [pair] })
    channels := putAt (putAt (Vector.replicate 12 none) 0 (some place0)) 1 (some place1)
    engines := putAt (putAt (Vector.replicate 12 .unused) 0 (pairEngine .primary)) 1 (pairEngine .complement)
    pins := putAt (putAt (Vector.replicate 24 PinEntry.reset) 0
        { owner := some { place := place0, drive := .pushPull }, rest := .float, level := .low })
      1 { owner := some { place := place1, drive := .pushPull }, rest := .float, level := .low }
    timebases := putAt (Vector.replicate 4 Timebase.reset) 0 (tb0 0 none) }

theorem leases_paired : paired.leases
    = putAt (Vector.replicate 16 none) 0 (some { lease0 0 8 .running with bindings := [pair] }) := by
  simp only [paired, State.refresh_leases]

theorem channels_paired (c : ChannelNo) : paired.channels[c]
    = if c = 0 then some place0 else if c = 1 then some place1 else none := by
  revert c; decide

theorem engines_paired (c : ChannelNo) : paired.engines[c].bare
    = if c = 0 then (pairEngine .primary).bare else if c = 1 then (pairEngine .complement).bare else .unused := by
  revert c; decide

theorem owners_paired (p : PinNo) : paired.pins[p].owner
    = if p = 0 then some { place := place0, drive := .pushPull }
      else if p = 1 then some { place := place1, drive := .pushPull } else none := by
  revert p; decide

/-- An engine serves a binding when it does without its output. -/
theorem serves_of_bare {e : Engine} {n : LeaseNo} {r : LeaseRecord} {i : Nat} {b : Binding} {role : Role}
    {period : Nat} (h : e.bare.Serves n r i b role period) : e.Serves n r i b role period := by
  cases e <;> exact h

theorem place_of_bare (e : Engine) : e.place? = e.bare.place? := by cases e <;> rfl

/-- The lease of `paired`. -/
def pairLease : LeaseRecord := { lease0 0 8 .running with bindings := [pair] }

theorem half_pair {x : Binding × Nat} (hx : x ∈ [pair].zipIdx) {h : Role × ChannelNo × PinNo} (hh : h ∈ x.1.halves) :
    x = (pair, 0) ∧ (h = (.primary, 0, 0) ∨ h = (.complement, 1, 1)) := by
  simp only [List.zipIdx_cons, List.zipIdx_nil, List.mem_singleton] at hx
  subst hx
  refine ⟨rfl, ?_⟩
  simpa [Binding.halves, pair] using hh

theorem period_paired : paired.periodOf 0 = 20 := by decide

theorem witness_ComplementPinsAreNeverBothActive :
    paired.Settled ∧ paired.TablesAgree ∧ paired.SafePairsFit ∧ paired.GatesFit := by
  refine ⟨State.settled_refresh _, ⟨fun n => ?_, ⟨fun c p hc => ?_, fun q o hq => ?_⟩, fun c => ?_⟩, fun n => ?_,
    fun n => ?_⟩
  · rw [leases_paired]
    by_cases hn : n = 0
    · subst hn
      rw [putAt_self]
      intro x hx h hh
      obtain ⟨rfl, rfl | rfl⟩ := half_pair hx hh
      · exact ⟨channels_paired 0, serves_of_bare (by rw [engines_paired 0, period_paired]; exact ⟨rfl, rfl, rfl⟩),
          owners_paired 0⟩
      · exact ⟨channels_paired 1, serves_of_bare (by rw [engines_paired 1, period_paired]; exact ⟨rfl, rfl, rfl⟩),
          owners_paired 1⟩
    · rw [putAt_other _ _ hn]; simp [leaseHas]
  · rw [channels_paired] at hc
    split at hc
    · subst_vars
      injection hc with hc
      subst hc
      exact ⟨pairLease, pair, by rw [leases_paired]; exact putAt_self .., rfl, (.primary, 0, 0),
        by simp [Binding.halves, pair], rfl, rfl⟩
    · split at hc
      · subst_vars
        injection hc with hc
        subst hc
        exact ⟨pairLease, pair, by rw [leases_paired]; exact putAt_self .., rfl, (.complement, 1, 1),
          by simp [Binding.halves, pair], rfl, rfl⟩
      · exact absurd hc (by simp)
  · rw [owners_paired] at hq
    split at hq
    · subst_vars
      injection hq with hq
      subst hq
      exact ⟨pairLease, pair, by rw [leases_paired]; exact putAt_self .., rfl, rfl, (.primary, 0, 0),
        by simp [Binding.halves, pair], rfl, rfl⟩
    · split at hq
      · subst_vars
        injection hq with hq
        subst hq
        exact ⟨pairLease, pair, by rw [leases_paired]; exact putAt_self .., rfl, rfl, (.complement, 1, 1),
          by simp [Binding.halves, pair], rfl, rfl⟩
      · exact absurd hq (by simp)
  · rw [place_of_bare, engines_paired, channels_paired]
    split
    · rfl
    · split <;> rfl
  · rw [leases_paired]
    refine leaseHas_first (fun x hx k hk => ?_) n
    simp only [List.zipIdx_cons, List.zipIdx_nil, List.mem_singleton] at hx
    subst hx
    injection hk with hk
    subst hk
    exact ⟨by decide, fun st hst => absurd hst (by simp [lease0, LeaseRecord.stagedAt])⟩
  · rw [leases_paired]
    refine leaseHas_first (fun x hx => ?_) n
    simp only [List.zipIdx_cons, List.zipIdx_nil, List.mem_singleton] at hx
    subst hx
    exact ⟨by decide, fun st hst => absurd hst (by simp [lease0, LeaseRecord.stagedAt])⟩

end Sys2Proof.Tests
end

section
/-! The tables through a step, said once. A step moves the lease table, the channel map, the timebases, the engines and
the pin table by a few kinds of moves alone (`State.TableMove`); an invariant of the tables that each move keeps is kept
by every step (`State.invariant_step`). -/

namespace Sys2Proof.Machine

open Relation

/-! ## Kinds of moves -/

/-- The tables of the leases are as before: each engine keeps what it holds, each pin its owner and each carrier its
in-use count. -/
structure State.SameTables (s t : State) : Prop where
  leases : t.leases = s.leases
  channels : t.channels = s.channels
  timebases : t.timebases = s.timebases
  engines : ∀ c : ChannelNo, t.engines[c].bare = s.engines[c].bare
  owners : ∀ p : PinNo, t.pins[p].owner = s.pins[p].owner
  uses : ∀ c : Carrier, (t.carrier c).inUse = (s.carrier c).inUse

/-- What the ten checks of CLAIM leave true of the tables when they accept a request: the lease record `k`, the
governing period and the channels placed (R25 to R36). -/
structure State.ClaimFits (s : State) (q : ClaimRequest) (k : LeaseNo) (governing : Nat)
    (placed : List (Nat × ChannelNo)) : Prop where
  spelled : ∃ ps, ClaimSpelled ps q
  lease : s.leases[k] = none
  pins : ∀ p ∈ q.pins, s.pins[p].owner = none
  safe : ∀ b ∈ q.blocks, b.safeFits = true
  timebase : s.checkTimebase q = .ok governing
  duties : ∀ b ∈ q.blocks, s.claimDutyFits q governing b = true
  channels : allocate s.channels (q.blocks.map fun b => b.complementPin.isSome) = .ok placed

/-- What AMEND's checks leave true of the tables when they accept a change for lease `k` (R69 to R72). -/
structure State.AmendFits (s : State) (k : LeaseNo) (r : LeaseRecord) (staged : List Settings) : Prop where
  lease : s.leases[k] = some r
  phase : r.phase.amendable = true
  spelled : staged.length = r.bindings.length ∧ ∃ ps, AmendSpelled ps r.bindings staged
  duties : ∀ st ∈ staged, st.duty ≤ s.comingPeriod r.timebase
  safe : ∀ z ∈ r.bindings.zip staged, amendSafeFits z = true

/-- A boundary's moves before the teardown of the drains that end (R53 to R58). -/
def State.moveBoundary (s : State) (tb : TimebaseNo) (x : TimebaseRun) : State :=
  let s1 := s.recordNotices fun n => boundaryKindsOf s.leases[n] tb x.staged.isSome
  let s2 := s1.mapEngines fun n e => boundaryEngine s.leases[n] tb x.coming e
  let s3 := s2.setLeases (boundaryLeases s.leases tb)
  s3.setTimebase tb (s3.timebases[tb].atBoundary x)

theorem State.takeBoundary_eq (s : State) (tb : TimebaseNo) (x : TimebaseRun) :
    s.takeBoundary tb x = (s.moveBoundary tb x).freeLeases fun n => endsDrain s.leases[n] tb := rfl

/-- The kinds of moves that the tables of the leases make, each with what was checked before it. -/
inductive State.TableMove : State → State → Prop
  | same {s t : State} (h : s.SameTables t) : TableMove s t
  | reset (s : State) : TableMove s s.fullReset
  | tripped (s : State) (reached : LeaseRecord → Bool) (cause : Source) : TableMove s (s.takeTrip reached cause)
  | freed (s : State) (which : LeaseNo → Bool) : TableMove s (s.freeLeases which)
  | claimed {s : State} {q : ClaimRequest} {k : LeaseNo} {governing : Nat} {placed : List (Nat × ChannelNo)}
      (n : SessionNo) (h : s.ClaimFits q k governing placed) :
      TableMove s (s.performClaim n q k (q.bindings placed))
  | amended {s : State} {k : LeaseNo} {r : LeaseRecord} {staged : List Settings} (h : s.AmendFits k r staged) :
      TableMove s (s.stageChange k r staged)
  | drained {s : State} {k : LeaseNo} {r : LeaseRecord} {plan : RetirePlan} (lease : s.leases[k] = some r)
      (phase : r.phase.amendable = true) (step : ∀ d, plan = .ramp d → 1 ≤ d ∧ d ≤ 255) :
      TableMove s (s.startDrain k r plan)
  | cleared {s : State} {k : LeaseNo} {r : LeaseRecord} {phase : Phase} (lease : s.leases[k] = some r)
      (before : r.phase.isTripped = true)
      (after : phase = .armed ∨ ∃ causes p, phase = .tripped causes p ∧ causes ≠ SourceSet.empty) :
      TableMove s (s.putLease k (some { r with phase := phase }))
  | adopted {s : State} {k : LeaseNo} {r : LeaseRecord} (n : SessionNo) (lease : s.leases[k] = some r) :
      TableMove s (s.putLease k (some { r with holder := n }))
  | counted {s : State} {tb : TimebaseNo} {x : TimebaseRun} (run : s.timebases[tb].run = some x)
      (started : x.startPending = false) (above : s.timebases[tb].counter ≠ 0) :
      TableMove s (s.setTimebase tb { s.timebases[tb] with counter := s.timebases[tb].counter - 1 })
  | retuned {s : State} {tb : TimebaseNo} {x : TimebaseRun} {period : Nat} (run : s.timebases[tb].run = some x)
      (range : 16 ≤ period ∧ period ≤ 4095) (duties : s.lowestUnfit tb period = none) :
      TableMove s (s.setTimebase tb { s.timebases[tb] with run := some { x with staged := some period } })
  | boundary {s : State} {tb : TimebaseNo} {x : TimebaseRun} (run : s.timebases[tb].run = some x)
      (due : x.startPending = true ∨ s.timebases[tb].counter = 0) :
      TableMove s (s.moveBoundary tb x)

/-- The tables of the leases move by any number of moves. -/
abbrev State.Moves : State → State → Prop := ReflTransGen State.TableMove

/-! ## Moves of nothing -/

theorem State.SameTables.moves {s t : State} (h : s.SameTables t) : s.Moves t := .single (.same h)

/-- A state with the very tables of another moves nothing. -/
theorem State.sameTables_of_eq {s t : State} (hl : t.leases = s.leases) (hc : t.channels = s.channels)
    (ht : t.timebases = s.timebases) (he : t.engines = s.engines) (hp : t.pins = s.pins)
    (hA : t.carrierA = s.carrierA) (hB : t.carrierB = s.carrierB) : s.SameTables t :=
  ⟨hl, hc, ht, fun c => by rw [he], fun p => by rw [hp], fun c => by cases c <;> simp [State.carrier, hA, hB]⟩

@[simp] theorem State.bare_engineNow (s : State) (e : Engine) : (s.engineNow e).bare = e.bare := by
  cases e <;> rfl

theorem State.sameTables_refresh (s : State) : s.SameTables s.refresh :=
  ⟨by simp, by simp, by simp, fun c => by simp, fun p => (s.pin_refresh_kept p.val p.isLt).1,
    fun c => by cases c <;> simp [State.carrier]⟩

theorem State.sameTables_setSession (s : State) (n : SessionNo) (r : Session) : s.SameTables (s.setSession n r) :=
  sameTables_of_eq (by simp) (by simp) (by simp) (by simp) (by simp) (by simp) (by simp)

theorem State.sameTables_renewed (s : State) (n : SessionNo) : s.SameTables (s.renewed n) :=
  s.sameTables_setSession n _

theorem State.sameTables_setLink (s : State) (l : Link) (p : LinkPort) : s.SameTables (s.setLink l p) :=
  sameTables_of_eq (by simp) (by simp) (by simp) (by simp) (by simp) (by simp) (by simp)

theorem State.sameTables_setInput (s : State) (i : FaultLine) (x : FaultInput) : s.SameTables (s.setInput i x) :=
  sameTables_of_eq (by simp) (by simp) (by simp) (by simp) (by simp) (by simp) (by simp)

theorem State.sameTables_setTrip (s : State) (t : TripUnit) : s.SameTables { s with trip := t } :=
  sameTables_of_eq rfl rfl rfl rfl rfl rfl rfl

theorem State.sameTables_setPending (s : State) (q : List Instr) : s.SameTables { s with pending := q } :=
  sameTables_of_eq rfl rfl rfl rfl rfl rfl rfl

theorem State.sameTables_setSupply (s : State) (mv : Nat) : s.SameTables { s with supplyMv := mv } :=
  sameTables_of_eq rfl rfl rfl rfl rfl rfl rfl

theorem State.sameTables_setRstn (s : State) (v : LineLevel) : s.SameTables { s with rstn := v } :=
  sameTables_of_eq rfl rfl rfl rfl rfl rfl rfl

theorem State.sameTables_place (s : State) (l : Link) (r : Response) : s.SameTables (s.place l r) :=
  sameTables_of_eq (by simp) (by simp) (by simp) (by simp) (by simp) (by simp) (by simp)

/-- A carrier given another divider and level keeps its in-use count. -/
theorem State.sameTables_setCarrierUnit (s : State) (c : Carrier) (divider : Nat) (high : Bool) :
    s.SameTables (s.setCarrierUnit c { s.carrier c with divider := divider, high := high }) :=
  ⟨by simp, by simp, by simp, by simp, by simp, fun d => by
    by_cases h : d = c
    · subst h; simp
    · rw [State.carrier_setCarrierUnit_other _ _ h]⟩

/-! ## Moves of the shared operations -/

variable (s : State)

theorem State.moves_lapseSession (n : SessionNo) : s.Moves (s.lapseSession n) := by
  rcases s.lapseSession_cases n with h | ⟨r, t, -, -, h⟩
  · rw [h]
  · rw [h]
    exact (s.sameTables_setSession n _).moves.tail (.tripped _ _ _)

theorem State.moves_closeSession (n : SessionNo) : s.Moves (s.closeSession n) :=
  (ReflTransGen.single (.freed s _)).trans (State.sameTables_setSession _ n none).moves

theorem State.moves_timerHappening (n : SessionNo) : s.Moves (s.timerHappening n) := by
  rcases s.timerHappening_cases n with h | ⟨r, x, -, h, -⟩ | h | h <;> rw [h]
  · exact (s.sameTables_setSession n _).moves
  · exact s.moves_lapseSession n
  · exact s.moves_closeSession n

/-- Operations taken one after the other, each with its moves. -/
theorem State.moves_foldl {α : Type} {f : State → α → State} (h : ∀ (u : State) a, u.Moves (f u a)) (xs : List α) :
    s.Moves (xs.foldl f s) := by
  induction xs generalizing s with
  | nil => exact .refl
  | cons x xs ih => exact (h s x).trans (ih _)

theorem State.moves_tickAll : s.Moves s.tickAll := s.moves_foldl (fun u n => u.moves_timerHappening n) _

theorem State.moves_lapseLink (l : Link) : s.Moves (s.lapseLink l) := by
  refine s.moves_foldl (fun u n => ?_) _
  split
  · exact u.moves_lapseSession n
  · exact .refl

theorem State.moves_setInputLatch (i : FaultLine) : s.Moves (s.setInputLatch i) := by
  rcases s.setInputLatch_cases i with ⟨-, h⟩ | ⟨-, h⟩ <;> rw [h]
  exact (s.sameTables_setInput i _).moves.tail (.tripped _ _ _)

theorem State.moves_setSupplyLatch : s.Moves s.setSupplyLatch := by
  rcases s.setSupplyLatch_cases with ⟨-, h⟩ | ⟨-, h⟩ <;> rw [h]
  exact (s.sameTables_setTrip _).moves.tail (.tripped _ _ _)

theorem State.moves_supplyFell : s.Moves s.supplyFell := by
  unfold State.supplyFell
  split
  · exact (s.sameTables_setTrip _).moves.trans (State.moves_setSupplyLatch _)
  · exact .refl

theorem State.moves_supplyRose : s.Moves s.supplyRose := by
  unfold State.supplyRose
  split
  · exact (s.sameTables_setTrip _).moves
  · exact .refl

theorem State.moves_compareSupply : s.Moves s.compareSupply := by
  unfold State.compareSupply
  split
  · exact (s.sameTables_setTrip _).moves.trans (State.moves_setSupplyLatch _)
  · split
    · exact (s.sameTables_setTrip _).moves
    · exact .refl

theorem State.moves_selectEdge (i : FaultLine) (e : Edge) : s.Moves (s.selectEdge i e) := by
  simp only [State.selectEdge]
  split
  · exact (s.sameTables_setInput i _).moves.trans (State.moves_setInputLatch _ i)
  · exact (s.sameTables_setInput i _).moves

theorem State.moves_takeBoundary {s : State} {tb : TimebaseNo} {x : TimebaseRun} (run : s.timebases[tb].run = some x)
    (due : x.startPending = true ∨ s.timebases[tb].counter = 0) : s.Moves (s.takeBoundary tb x) := by
  rw [State.takeBoundary_eq]
  exact (ReflTransGen.single (.boundary run due)).tail (.freed _ _)

/-! ## Transactions -/

theorem State.sameTables_selectLink (l : Link) : s.SameTables (s.selectLink l) := by
  unfold State.selectLink
  split
  · exact sameTables_of_eq rfl rfl rfl rfl rfl rfl rfl
  · exact s.sameTables_setLink l _

theorem State.sameTables_shiftFree (l : Link) (n : Nat) : s.SameTables (s.shiftFree l n) :=
  sameTables_of_eq (by simp [shiftFree]) (by simp [shiftFree]) (by simp [shiftFree]) (by simp [shiftFree])
    (by simp [shiftFree]) (by simp [shiftFree]) (by simp [shiftFree])

theorem State.SameTables.refl : s.SameTables s := sameTables_of_eq rfl rfl rfl rfl rfl rfl rfl

theorem State.SameTables.trans {s t u : State} (h : s.SameTables t) (k : t.SameTables u) : s.SameTables u :=
  ⟨k.leases.trans h.leases, k.channels.trans h.channels, k.timebases.trans h.timebases,
    fun c => (k.engines c).trans (h.engines c), fun p => (k.owners p).trans (h.owners p),
    fun c => (k.uses c).trans (h.uses c)⟩

theorem State.sameTables_shiftIgnored (l : Link) (due : Option Byte) (n : Nat) :
    s.SameTables (s.shiftIgnored l due n) := by
  unfold State.shiftIgnored
  split
  · split
    · exact .refl s
    · exact s.sameTables_shiftFree l _
  · exact .refl s
  · split
    · exact s.sameTables_setLink l _
    · exact (s.sameTables_setLink l _).trans (State.sameTables_shiftFree _ l _)

theorem State.sameTables_firstByte (l : Link) (b : Byte) : s.SameTables (s.firstByte l b) := by
  simp only [State.firstByte]
  repeat' split
  all_goals first
    | exact s.sameTables_setLink l _
    | exact s.sameTables_shiftIgnored l _ _
    | exact .refl s

theorem State.sameTables_moreBytes (l : Link) (bs : List Byte) : s.SameTables (s.moreBytes l bs) := by
  simp only [State.moreBytes]
  repeat' split
  all_goals first
    | exact s.sameTables_setLink l _
    | exact s.sameTables_shiftIgnored l _ _
    | exact .refl s

theorem State.moves_clearedLink (l : Link) (drop : Bool) : s.Moves (s.clearedLink l drop) := by
  simp only [State.clearedLink]
  split
  · exact (s.sameTables_setLink l _).moves.trans (State.moves_lapseLink _ l)
  · exact (s.sameTables_setLink l _).moves

/-- A chip select that rises moves the tables through a CLEAR LINK with drop alone. -/
theorem State.moves_riseLink (l : Link) : s.Moves (s.riseLink l) := by
  have hend : ∀ u : State, u.Moves (u.endTransaction l) := fun u => (u.sameTables_setLink l _).moves
  have hset : ∀ p, s.Moves ((s.setLink l p).endTransaction l) := fun p =>
    (s.sameTables_setLink l p).moves.trans (hend _)
  have hclear : ∀ drop, s.Moves ((s.clearedLink l drop).endTransaction l) := fun drop =>
    (s.moves_clearedLink l drop).trans (hend _)
  simp only [State.riseLink]
  split
  · exact .refl
  · split
    · exact hset _
    all_goals exact hend s
  · exact hset _
  · split
    · exact hset _
    · exact hend s
  · exact hend s
  · split
    · exact hclear _
    · split
      · exact hclear _
      · exact hend s
  · exact hend s
  · exact hend s

theorem State.moves_transact (row : TransactionRow) (l : Link) (m : Moment) : s.Moves (s.transact row l m) := by
  cases m with
  | whole b rest =>
    simp only [State.transact, State.wholeTransaction]
    split
    · exact ((s.sameTables_selectLink l).trans ((State.sameTables_firstByte _ l b).trans
        (State.sameTables_moreBytes _ l rest))).moves.trans (State.moves_riseLink _ l)
    · exact .refl
  | select => exact (s.sameTables_selectLink l).moves
  | first b =>
    simp only [State.transact]
    split
    · exact (s.sameTables_firstByte l b).moves
    · exact .refl
  | more bs =>
    simp only [State.transact]
    split
    · exact (s.sameTables_moreBytes l bs).moves
    · exact .refl
  | rise =>
    simp only [State.transact]
    split
    · exact s.moves_riseLink l
    · exact .refl

/-! ## Moves of the commands -/

/-- The moves of what a command performs, where its own checks accept it. -/
def PerformMoves (c : Command) (perform : State → SessionNo → List Byte → Performed) : Prop :=
  ∀ (s : State) (n : SessionNo) (ps : List Byte) (t : State) (resp : Response), ps.length ∈ c.lengths →
    perform s n ps = .ok (t, resp) → s.Moves t

/-- A command that the executor takes moves the tables as it performs; refused, it renews the session alone. -/
theorem State.moves_takeSession {c : Command} {perform : State → SessionNo → List Byte → Performed}
    (h : PerformMoves c perform) : s.Moves (s.takeSession c perform) := by
  have hplace : ∀ (u : State) l r, u.Moves (u.place l r) := fun u l r => (u.sameTables_place l r).moves
  unfold State.takeSession
  split
  · exact .refl
  split
  swap
  · exact .refl
  rename_i l f _ _
  refine ReflTransGen.trans ?_ (hplace _ _ _)
  unfold State.serveSession
  split
  · exact .refl
  rename_i n hn
  have hlen : f.params.length ∈ c.lengths := by
    cases hc : checkLength c f with
    | error e => simp [hc, bind, Except.bind] at hn
    | ok => simpa using check_eq_ok.1 hc
  refine (s.sameTables_renewed n).moves.trans ?_
  cases hp : perform (s.renewed n) n f.params with
  | error e => exact .refl
  | ok x => exact h _ n _ x.1 x.2 hlen hp

/-- The moves of what happens with the outputs brought up to date after it. -/
theorem State.moves_happen {s t : State} {f : State → State} (hf : s.Moves (f s)) (h : s.happen f = .next t) :
    s.Moves t := by
  simp only [State.happen, Host.Outcome.next.injEq] at h
  subst h
  split
  · exact .refl
  · exact hf.trans (State.sameTables_refresh _).moves

theorem bind_eq_ok {ε α β : Type} {x : Except ε α} {f : α → Except ε β} {b : β} :
    (x >>= f) = .ok b ↔ ∃ a, x = .ok a ∧ f a = .ok b := by
  cases x <;> simp [bind, Except.bind]

theorem checkEach_eq_ok {α : Type} {ok : α → Bool} {xs : List α} {status : Status} {u : Unit}
    (h : checkEach ok xs status = .ok u) : ∀ x ∈ xs, ok x = true := by
  have key : ∀ (ys : List α) (i : Nat), firstFailing ok i ys = none → ∀ y ∈ ys, ok y = true := by
    intro ys
    induction ys with
    | nil => simp
    | cons y ys ih =>
      intro i hi
      rw [firstFailing] at hi
      split at hi
      · exact List.forall_mem_cons.2 ⟨‹_›, ih _ hi⟩
      · cases hi
  unfold checkEach at h
  split at h
  · exact key xs 0 ‹_›
  · cases h

theorem checkPhase_eq_ok {l : Lease} {accepts : Phase → Bool} {r : LeaseRecord} :
    checkPhase l accepts = .ok r ↔ l = some r ∧ accepts r.phase = true := by
  cases l with
  | none => simp [checkPhase]
  | some x =>
    simp only [checkPhase, Option.some.injEq]
    split
    · simp only [Except.ok.injEq]
      constructor
      · rintro rfl; exact ⟨rfl, ‹_›⟩
      · exact And.left
    · simp only [reduceCtorEq, false_iff, not_and]
      rintro rfl; assumption

theorem State.checkPins_eq_ok {q : ClaimRequest} {u : Unit} (h : s.checkPins q = .ok u) :
    ∀ p ∈ q.pins, s.pins[p].owner = none := by
  unfold State.checkPins at h
  split at h
  · intro p hp
    have := List.find?_eq_none.1 (by assumption : s.lowestOwnedNamed q = none) p (List.mem_finRange p)
    simpa [hp] using this
  · cases h

theorem State.checkChannels_eq_ok {q : ClaimRequest} {placed : List (Nat × ChannelNo)}
    (h : s.checkChannels q = .ok placed) :
    allocate s.channels (q.blocks.map fun b => b.complementPin.isSome) = .ok placed := by
  unfold State.checkChannels at h
  split at h
  · cases h; assumption
  · cases h

/-- An accepted CLAIM: its request fits the tables, and it is performed whole (R25 to R41). -/
theorem performClaimCommand_ok {n : SessionNo} {ps : List Byte} {t : State} {resp : Response}
    (hl : ps.length ∈ Command.claim.lengths) (h : performClaimCommand s n ps = .ok (t, resp)) :
    ∃ q k governing placed, s.ClaimFits q k governing placed ∧ t = s.performClaim n q k (q.bindings placed) := by
  unfold performClaimCommand at h
  simp only [bind_eq_ok] at h
  obtain ⟨q, hq, k, hk, _, -, _, hpins, _, hsafe, g, hg, _, hd, _, -, _, -, placed, hplaced, h⟩ := h
  injection h with h
  injection h with h
  refine ⟨q, k, g, placed, ⟨⟨ps, claimSpelled_of_read hl hq⟩, ?_, s.checkPins_eq_ok hpins, checkEach_eq_ok hsafe, hg,
    checkEach_eq_ok hd, s.checkChannels_eq_ok hplaced⟩, h.symm⟩
  have := List.find?_some (need_eq_ok.1 hk)
  simpa using this

/-- An accepted AMEND: its change fits the lease, and is staged (R69 to R74). -/
theorem performAmend_ok {n : SessionNo} {ps : List Byte} {t : State} {resp : Response}
    (h : performAmend s n ps = .ok (t, resp)) : ∃ k r staged, s.AmendFits k r staged ∧ t = s.stageChange k r staged := by
  unfold performAmend at h
  simp only [bind_eq_ok] at h
  obtain ⟨k, -, _, -, r, hr, _, -, staged, hs, _, hd, _, hsafe, _, -, h⟩ := h
  injection h with h
  injection h with h
  obtain ⟨h1, h2⟩ := checkPhase_eq_ok.1 hr
  obtain ⟨h3, h4⟩ := readAmendBlocks_eq_ok.1 hs
  exact ⟨k, r, staged, ⟨h1, h2, ⟨h3, ps, h4⟩, fun st hst => by simpa using checkEach_eq_ok hd st hst,
    checkEach_eq_ok hsafe⟩, h.symm⟩

theorem readRetireMode_ramp {mode step d : Nat} (h : readRetireMode mode step = some (.ramp d)) :
    d = step ∧ step ≠ 0 := by
  unfold readRetireMode at h
  repeat' split at h
  all_goals first
    | cases h; done
    | (simp only [Option.some.injEq, RetireMode.ramp.injEq] at h; exact ⟨h.symm, ‹_›⟩)

/-- A mode drains a lease that is RUNNING or AMEND_PENDING alone, a ramp with the step that was read (R78). -/
theorem RetireMode.plan_eq_some {m : RetireMode} {p : Phase} {plan : RetirePlan} (h : m.plan p = some plan) :
    p.amendable = true ∧ ∀ d, plan = .ramp d → m = .ramp d := by
  cases m <;> simp only [RetireMode.plan, reduceCtorEq, Option.ite_none_right_eq_some, Option.some.injEq] at h
  all_goals
    obtain ⟨h1, rfl⟩ := h
    exact ⟨h1, by simp⟩

theorem performMoves_retire : PerformMoves .retire performRetire := by
  intro s n ps t resp _ h
  unfold performRetire at h
  simp only [bind_eq_ok] at h
  obtain ⟨k, -, -, -, m, hm, r, hr, h⟩ := h
  injection h with h
  injection h with h
  subst h
  unfold State.retireLease
  split
  · exact .single (.freed s _)
  · rename_i plan hplan
    obtain ⟨hp, hd⟩ := RetireMode.plan_eq_some hplan
    refine .single (.drained (checkPhase_eq_ok.1 hr).1 hp fun d hplan' => ?_)
    have hm' := need_eq_ok.1 hm
    rw [hd d hplan'] at hm'
    obtain ⟨rfl, hne⟩ := readRetireMode_ramp hm'
    have := arg_lt ps 3
    omega

theorem State.moves_clearLease {k : LeaseNo} {r : LeaseRecord} (hr : s.leases[k] = some r)
    (hp : r.phase.isTripped = true) : s.Moves (s.clearLease k r) := by
  unfold State.clearLease
  split
  · exact .single (.cleared hr hp (.inr ⟨_, _, rfl, ‹_›⟩))
  · split
    · exact .single (.freed s _)
    · exact .single (.cleared hr hp (.inl rfl))

theorem performMoves_clearTrip : PerformMoves .clearTrip performClearTrip := by
  intro s n ps t resp _ h
  unfold performClearTrip at h
  simp only [bind_eq_ok] at h
  obtain ⟨k, -, -, -, r, hr, h⟩ := h
  injection h with h
  injection h with h
  subst h
  exact s.moves_clearLease (checkPhase_eq_ok.1 hr).1 (checkPhase_eq_ok.1 hr).2

theorem State.checkDuties_eq_ok {tb : TimebaseNo} {period : Nat} {u : Unit} (h : s.checkDuties tb period = .ok u) :
    s.lowestUnfit tb period = none := by
  unfold State.checkDuties at h
  split at h
  · assumption
  · cases h

theorem performMoves_retune : PerformMoves .retune performRetune := by
  intro s n ps t resp _ h
  unfold performRetune at h
  simp only [bind_eq_ok] at h
  obtain ⟨tb, -, _, -, x, hx, _, hrange, _, hd, h⟩ := h
  injection h with h
  injection h with h
  subst h
  refine .single (.retuned (need_eq_ok.1 hx) ?_ (s.checkDuties_eq_ok hd))
  simpa using check_eq_ok.1 hrange

theorem State.checkAdoptable_eq_ok {k : LeaseNo} {r : LeaseRecord} (h : s.checkAdoptable k = .ok r) :
    s.leases[k] = some r := by
  unfold State.checkAdoptable at h
  repeat' split at h
  all_goals first
    | cases h; done
    | (cases h; assumption)

theorem performMoves_adopt : PerformMoves .adopt performAdopt := by
  intro s n ps t resp _ h
  unfold performAdopt at h
  simp only [bind_eq_ok] at h
  obtain ⟨k, -, -, -, r, hr, -, -, h⟩ := h
  injection h with h
  injection h with h
  subst h
  refine (s.sameTables_setSession r.holder _).moves.tail (.adopted (k := k) n ?_)
  simpa using s.checkAdoptable_eq_ok hr

theorem performMoves_haltAll : PerformMoves .haltAll performHaltAll := by
  intro s n ps t resp _ h
  unfold performHaltAll at h
  simp only [bind_eq_ok] at h
  obtain ⟨-, -, h⟩ := h
  split at h <;> injection h with h <;> injection h with h <;> subst h
  · exact .refl
  · exact (s.sameTables_setTrip _).moves.tail (.tripped _ _ _)

theorem performMoves_setFaultEdge : PerformMoves .setFaultEdge performSetFaultEdge := by
  intro s n ps t resp _ h
  unfold performSetFaultEdge at h
  simp only [bind_eq_ok] at h
  obtain ⟨-, -, i, -, e, -, -, -, h⟩ := h
  injection h with h
  injection h with h
  subst h
  exact s.moves_selectEdge i e

theorem performMoves_setSupplyLevel : PerformMoves .setSupplyLevel performSetSupplyLevel := by
  intro s n ps t resp _ h
  unfold performSetSupplyLevel at h
  simp only [bind_eq_ok] at h
  obtain ⟨-, -, code, -, h⟩ := h
  injection h with h
  injection h with h
  subst h
  exact (s.sameTables_setTrip _).moves.trans (State.moves_compareSupply _)

theorem performMoves_setCarrier : PerformMoves .setCarrier performSetCarrier := by
  intro s n ps t resp _ h
  unfold performSetCarrier at h
  simp only [bind_eq_ok] at h
  obtain ⟨-, -, c, -, -, -, -, -, h⟩ := h
  injection h with h
  injection h with h
  subst h
  exact (s.sameTables_setCarrierUnit c _ _).moves

theorem PinEntry.owner_setRest (p : PinEntry) (l : Level) : (p.setRest l).owner = p.owner := by
  unfold PinEntry.setRest
  split
  · rw [‹p.owner = none›]
  · rfl

theorem performMoves_setPinRest : PerformMoves .setPinRest performSetPinRest := by
  intro s n ps t resp _ h
  unfold performSetPinRest at h
  simp only [bind_eq_ok] at h
  obtain ⟨-, -, p, -, l, -, h⟩ := h
  injection h with h
  injection h with h
  subst h
  refine State.SameTables.moves ⟨by simp, by simp, by simp, by simp, fun x => ?_, by simp [State.carrier]⟩
  simp only [Fin.getElem_fin, getElem_putAt]
  split
  · rename_i hx
    simp only [PinEntry.owner_setRest, hx]
  · rfl

/-- A command that leaves the tables as it finds them. -/
theorem performMoves_of_same {c : Command} {perform : State → SessionNo → List Byte → Performed}
    (h : ∀ s n ps t resp, perform s n ps = .ok (t, resp) → s.SameTables t) : PerformMoves c perform :=
  fun s n ps t resp _ hp => (h s n ps t resp hp).moves

theorem performMoves_readFaults : PerformMoves .readFaults performReadFaults := by
  refine performMoves_of_same fun s n ps t resp h => ?_
  unfold performReadFaults at h
  simp only [bind_eq_ok] at h
  obtain ⟨mask, -, h⟩ := h
  injection h with h
  injection h with h
  subst h
  exact s.sameTables_setTrip _

theorem performMoves_releaseHalt : PerformMoves .releaseHalt performReleaseHalt := by
  refine performMoves_of_same fun s n ps t resp h => ?_
  unfold performReleaseHalt at h
  simp only [bind_eq_ok] at h
  obtain ⟨-, -, h⟩ := h
  injection h with h
  injection h with h
  subst h
  exact s.sameTables_setTrip _

theorem performMoves_readNotices : PerformMoves .readNotices performReadNotices := by
  refine performMoves_of_same fun s n ps t resp h => ?_
  unfold performReadNotices at h
  split at h <;> injection h with h <;> injection h with h <;> subst h
  · exact .refl s
  · exact s.sameTables_setSession n _

theorem performMoves_closeSession : PerformMoves .closeSession performCloseSession := by
  intro s n ps t resp _ h
  injection h with h
  injection h with h
  subst h
  exact s.moves_closeSession n

/-- A query that answers, if it does, from the state it finds. -/
theorem performMoves_of_query {c : Command} {perform : State → SessionNo → List Byte → Performed}
    (h : ∀ s n ps t resp, perform s n ps = .ok (t, resp) → t = s) : PerformMoves c perform :=
  performMoves_of_same fun s n ps t resp hp => h s n ps t resp hp ▸ .refl s

theorem need_bind_ok {α : Type} {x : Option α} {status : Status} {d : Byte} {s t : State} {f : α → Response}
    {resp : Response}
    (h : (do let a ← need x status d; Except.ok (s, f a)) = (Except.ok (t, resp) : Except Reject (State × Response))) :
    t = s := by
  obtain ⟨a, -, h⟩ := bind_eq_ok.1 h
  injection h with h
  injection h with h
  exact h.symm

theorem performMoves_queryLease : PerformMoves .queryLease performQueryLease := by
  refine performMoves_of_query fun s n ps t resp h => ?_
  unfold performQueryLease at h
  simp only [bind_eq_ok] at h
  obtain ⟨k, -, -, -, h⟩ := h
  split at h
  · injection h with h
    injection h with h
    exact h.symm
  · obtain ⟨r, -, h⟩ := bind_eq_ok.1 h
    injection h with h
    injection h with h
    exact h.symm

/-- OPEN SESSION writes a session record alone. -/
theorem State.moves_takeOpenSession : s.Moves s.takeOpenSession := by
  unfold State.takeOpenSession
  split
  · exact .refl
  split
  swap
  · exact .refl
  rename_i l f _ _
  refine ReflTransGen.trans ?_ (State.sameTables_place _ _ _).moves
  cases hp : (do checkLength .openSession f; performOpenSession s l f.params : Performed) with
  | error e => exact .refl
  | ok x =>
    unfold performOpenSession at hp
    simp only [bind_eq_ok] at hp
    obtain ⟨-, -, q, -, -, -, -, -, n, -, h⟩ := hp
    injection h with h
    subst h
    exact (s.sameTables_setSession n _).moves

theorem State.moves_takeBadCommand : s.Moves s.takeBadCommand := by
  unfold State.takeBadCommand
  repeat' split
  all_goals first
    | exact .refl
    | exact (s.sameTables_place _ _).moves

/-! ## A step's moves -/

/-- The moves of one command (R16 to R172): every change of the tables of the leases that any command makes is one of
the moves. -/
theorem exec_moves {i : Instr} {s t : State} (h : exec i s = .next t) : s.Moves t := by
  have served : ∀ {c : Command} {perform : State → SessionNo → List Byte → Performed}, PerformMoves c perform →
      (s.happen fun s => s.takeSession c perform) = .next t → s.Moves t :=
    fun hp h => State.moves_happen (s.moves_takeSession hp) h
  have next : ∀ {u : State}, s.Moves u → (Host.Outcome.next u : Result) = .next t → s.Moves t := by
    rintro u hu h
    injection h with h
    exact h ▸ hu
  have refreshed : ∀ {u : State}, s.Moves u → s.Moves u.refresh :=
    fun hu => hu.trans (State.sameTables_refresh _).moves
  cases i with
  | openSession => exact State.moves_happen s.moves_takeOpenSession h
  | renew =>
    refine served (performMoves_of_query fun s n ps t resp h => ?_) h
    injection h with h
    injection h with h
    exact h.symm
  | closeSession => exact served performMoves_closeSession h
  | claim =>
    refine served (fun u n ps v resp hl hp => ?_) h
    obtain ⟨q, k, g, placed, hfit, rfl⟩ := performClaimCommand_ok u hl hp
    exact .single (.claimed n hfit)
  | amend =>
    refine served (fun u n ps v resp _ hp => ?_) h
    obtain ⟨k, r, staged, hfit, rfl⟩ := performAmend_ok u hp
    exact .single (.amended hfit)
  | retire => exact served performMoves_retire h
  | clearTrip => exact served performMoves_clearTrip h
  | retune => exact served performMoves_retune h
  | adopt => exact served performMoves_adopt h
  | readNotices => exact served performMoves_readNotices h
  | readFaults => exact served performMoves_readFaults h
  | querySession => exact served (performMoves_of_query fun _ _ _ _ _ => need_bind_ok) h
  | queryLease => exact served performMoves_queryLease h
  | queryTimebase => exact served (performMoves_of_query fun _ _ _ _ _ => need_bind_ok) h
  | findByPin => exact served (performMoves_of_query fun _ _ _ _ _ => need_bind_ok) h
  | listLeases => exact served (performMoves_of_query fun _ _ _ _ _ => need_bind_ok) h
  | setPinRest => exact served performMoves_setPinRest h
  | setCarrier => exact served performMoves_setCarrier h
  | setFaultEdge => exact served performMoves_setFaultEdge h
  | setSupplyLevel => exact served performMoves_setSupplyLevel h
  | haltAll => exact served performMoves_haltAll h
  | releaseHalt => exact served performMoves_releaseHalt h
  | badCommand => exact State.moves_happen s.moves_takeBadCommand h
  | commandFrame l m => exact next (refreshed (s.moves_transact _ l m)) h
  | fetch l m => exact next (refreshed (s.moves_transact _ l m)) h
  | clearLink l m => exact next (refreshed (s.moves_transact _ l m)) h
  | ignoredTransaction l m => exact next (refreshed (s.moves_transact _ l m)) h
  | count tb =>
    simp only [exec, execCount] at h
    refine State.moves_happen ?_ h
    split
    · exact .refl
    · rename_i x hx
      split
      · exact .refl
      · rename_i hp
        split
        · exact State.moves_takeBoundary hx (.inr ‹_›)
        · exact .single (.counted hx (by simpa using hp) ‹_›)
  | boundary tb =>
    simp only [exec, execBoundary] at h
    refine State.moves_happen ?_ h
    split
    · exact .refl
    · rename_i x hx
      split
      · exact .refl
      · split
        · exact State.moves_takeBoundary hx (.inr ‹_›)
        · exact .refl
  | startBoundary tb =>
    simp only [exec, execStartBoundary] at h
    refine State.moves_happen ?_ h
    split
    · exact .refl
    · rename_i x hx
      split
      · exact State.moves_takeBoundary hx (.inl ‹_›)
      · exact .refl
  | carrierEdge c =>
    simp only [exec, execCarrierEdge] at h
    refine State.moves_happen ?_ h
    split
    · exact .refl
    · exact (s.sameTables_setCarrierUnit c _ _).moves
  | tick who =>
    simp only [exec, execTick] at h
    refine State.moves_happen ?_ h
    cases who with
    | none => exact s.moves_tickAll
    | some n => exact s.moves_timerHappening n
  | lapse n =>
    refine State.moves_happen ?_ h
    split
    · exact s.moves_lapseSession n
    · exact .refl
  | holdExpiry n =>
    refine State.moves_happen ?_ h
    split
    · exact s.moves_closeSession n
    · exact .refl
  | faultInputChange i level => exact next (s.sameTables_setInput i _).moves h
  | faultEdge i =>
    simp only [exec, execFaultEdge] at h
    refine State.moves_happen ?_ h
    split
    · exact (s.sameTables_setInput i _).moves.trans (State.moves_setInputLatch _ i)
    · exact .refl
  | faultRelease i =>
    simp only [exec, execFaultRelease] at h
    refine State.moves_happen ?_ h
    split
    · exact (s.sameTables_setInput i _).moves
    · exact .refl
  | supplyFall mv =>
    simp only [exec, execSupplyFall] at h
    repeat' split at h
    · exact next ((s.sameTables_setSupply mv).moves.tail (.reset _)) h
    · exact next (s.sameTables_setSupply mv).moves h
    · exact next (refreshed ((s.sameTables_setSupply mv).moves.trans (State.moves_supplyFell _))) h
    · exact next .refl h
  | supplyRise mv =>
    simp only [exec, execSupplyRise] at h
    repeat' split at h
    · exact next (s.sameTables_setSupply mv).moves h
    · exact next (refreshed ((s.sameTables_setSupply mv).moves.trans (State.moves_supplyRose _))) h
    · exact next .refl h
  | fullReset cause =>
    cases cause with
    | rstn lowNs =>
      refine next ?_ h
      split
      · exact .refl
      · exact (s.sameTables_setRstn _).moves.tail (.reset _)
    | powerOn => exact next (.single (.reset s)) h
    | supply mv =>
      refine next ?_ h
      split
      · exact (s.sameTables_setSupply mv).moves.tail (.reset _)
      · exact .refl
  | resetRelease =>
    refine next ?_ h
    have hrel : ∀ u : State, u.SameTables u.releaseReset := fun u => State.sameTables_of_eq rfl rfl rfl rfl rfl rfl rfl
    repeat' split
    · exact ((s.sameTables_setRstn _).trans (hrel _)).moves.trans (State.sameTables_refresh _).moves
    · exact (s.sameTables_setRstn _).moves
    · exact .refl

theorem step_moves {s t : State} (h : step s = .next t) : s.Moves t := by
  unfold step at h
  split at h
  · injection h with h
    exact h ▸ .refl
  · exact (s.sameTables_setPending _).moves.trans (exec_moves h)

/-- An invariant that every move of the tables keeps is kept by every step. -/
theorem State.invariant_step {I : State → Prop} (hI : ∀ s t, State.TableMove s t → I s → I t) {s t : State}
    (h : step s = .next t) (hs : I s) : I t := by
  have hm := step_moves h
  clear h
  induction hm with
  | refl => exact hs
  | tail _ hm ih => exact hI _ _ hm ih

end Sys2Proof.Machine
end

section
/-! The lease records through a step (R2 to R7, R30, R72): what a move of the tables can make of one record
(`LeaseMove`), and that each of these keeps a record in shape and its bindings with settings they allow. -/

namespace Sys2Proof.Machine

/-! ## Records read -/

theorem leaseHas_iff {l : Lease} {p : LeaseRecord → Prop} : leaseHas l p ↔ ∀ r, l = some r → p r := by
  cases l <;> simp [leaseHas]

theorem mem_zipIdx_iff {α : Type} {xs : List α} {x : α × Nat} : x ∈ xs.zipIdx ↔ xs[x.2]? = some x.1 := by
  rw [List.mem_zipIdx_iff_getElem?]

@[simp] theorem State.leases_moveBoundary (s : State) (tb : TimebaseNo) (x : TimebaseRun) (k : Nat) (h : k < 16) :
    (s.moveBoundary tb x).leases[k] = s.leases[k].map fun r => if r.timebase = tb then r.atBoundary else r := by
  simp [State.moveBoundary, boundaryLeases]

@[simp] theorem State.leases_performClaim (s : State) (n : SessionNo) (q : ClaimRequest) (k : LeaseNo)
    (bs : List Binding) (j : Nat) (h : j < 16) :
    (s.performClaim n q k bs).leases[j] = if j = k.val then some (q.record n bs) else s.leases[j] := by
  simp [State.performClaim, State.putLease]

@[simp] theorem State.leases_stageChange (s : State) (k : LeaseNo) (r : LeaseRecord) (staged : List Settings)
    (j : Nat) (h : j < 16) : (s.stageChange k r staged).leases[j]
      = if j = k.val then some { r with phase := .amendPending staged } else s.leases[j] := by
  simp [State.stageChange]

@[simp] theorem State.leases_startDrain (s : State) (k : LeaseNo) (r : LeaseRecord) (plan : RetirePlan)
    (j : Nat) (h : j < 16) : (s.startDrain k r plan).leases[j]
      = if j = k.val then some { r with phase := .draining plan } else s.leases[j] := by
  simp [State.startDrain]

/-- The bindings of a claim, by index, are those of its blocks with the channels placed (R37). -/
theorem ClaimRequest.getElem?_bindings (q : ClaimRequest) (placed : List (Nat × ChannelNo)) (i : Nat) :
    (q.bindings placed)[i]? = q.blocks[i]?.map fun b => b.binding (placedAt placed i) := by
  simp [ClaimRequest.bindings, List.getElem?_map, List.getElem?_zipIdx, Function.comp_def]

@[simp] theorem ClaimRequest.length_bindings (q : ClaimRequest) (placed : List (Nat × ChannelNo)) :
    (q.bindings placed).length = q.blocks.length := by
  simp [ClaimRequest.bindings]

theorem getElem?_commitBindings (bs : List Binding) (staged : List Settings) (i : Nat) :
    (commitBindings bs staged)[i]?
      = bs[i]?.map fun b => { b with active := staged[i]?.getD b.active } := by
  simp [commitBindings, List.getElem?_map, List.getElem?_zipIdx, Function.comp_def]

@[simp] theorem length_commitBindings (bs : List Binding) (staged : List Settings) :
    (commitBindings bs staged).length = bs.length := by
  simp [commitBindings]

/-! ## What a move makes of one record -/

/-- What a move of the tables can make of one entry of the lease table. -/
inductive LeaseMove : Lease → Lease → Prop
  | kept (l : Lease) : LeaseMove l l
  | freed (l : Lease) : LeaseMove l none
  | tripped (r : LeaseRecord) (cause : Source) : LeaseMove (some r) (some (r.trip cause))
  | claimed {s : State} {q : ClaimRequest} {k : LeaseNo} {governing : Nat} {placed : List (Nat × ChannelNo)}
      (n : SessionNo) (h : s.ClaimFits q k governing placed) :
      LeaseMove none (some (q.record n (q.bindings placed)))
  | amended {s : State} {k : LeaseNo} {r : LeaseRecord} {staged : List Settings} (h : s.AmendFits k r staged) :
      LeaseMove (some r) (some { r with phase := .amendPending staged })
  | drained {r : LeaseRecord} {plan : RetirePlan} (phase : r.phase.amendable = true)
      (step : ∀ d, plan = .ramp d → 1 ≤ d ∧ d ≤ 255) : LeaseMove (some r) (some { r with phase := .draining plan })
  | cleared {r : LeaseRecord} {phase : Phase} (before : r.phase.isTripped = true)
      (after : phase = .armed ∨ ∃ causes p, phase = .tripped causes p ∧ causes ≠ SourceSet.empty) :
      LeaseMove (some r) (some { r with phase := phase })
  | adopted (r : LeaseRecord) (n : SessionNo) : LeaseMove (some r) (some { r with holder := n })
  | boundary (r : LeaseRecord) : LeaseMove (some r) (some r.atBoundary)

/-- A table with one record replaced: the record moves as it does, and every other is kept. -/
theorem leaseMove_of_put {ls : Vector Lease 16} {l' : Lease} {k : LeaseNo} (h : LeaseMove ls[k] l') (n : LeaseNo) :
    LeaseMove ls[n] (if n.val = k.val then l' else ls[n]) := by
  split
  · rename_i hn
    obtain rfl := Fin.ext hn
    exact h
  · exact .kept _

/-- Each move of the tables moves each lease record in one of these ways. -/
theorem State.TableMove.leaseMove {s t : State} (hm : State.TableMove s t) (n : LeaseNo) :
    LeaseMove s.leases[n] t.leases[n] := by
  cases hm with
  | same hs => rw [hs.leases]; exact .kept _
  | reset =>
    have hnone : s.fullReset.leases[n] = none := by simp [State.fullReset, State.reset]
    rw [hnone]
    exact .freed _
  | tripped reached cause =>
    simp only [Fin.getElem_fin, State.leases_takeTrip]
    cases s.leases[n.val] with
    | none => exact .kept _
    | some r =>
      rw [Option.map_some]
      split
      · exact .tripped r cause
      · exact .kept _
  | freed which =>
    simp only [Fin.getElem_fin, State.leases_freeLeases]
    split
    · exact .freed _
    · exact .kept _
  | @claimed q k g placed m hf =>
    simpa using leaseMove_of_put (k := k) (by rw [hf.lease]; exact .claimed m hf) n
  | @amended k r staged hf => simpa using leaseMove_of_put (k := k) (by rw [hf.lease]; exact .amended hf) n
  | @drained k r plan hr hp hstep => simpa using leaseMove_of_put (k := k) (by rw [hr]; exact .drained hp hstep) n
  | @cleared k r phase hr before after => simpa using leaseMove_of_put (k := k) (by rw [hr]; exact .cleared before after) n
  | @adopted k r m hr => simpa using leaseMove_of_put (k := k) (by rw [hr]; exact .adopted r m) n
  | counted => exact .kept _
  | retuned => exact .kept _
  | boundary =>
    simp only [Fin.getElem_fin, State.leases_moveBoundary]
    cases s.leases[n.val] with
    | none => exact .kept _
    | some r =>
      rw [Option.map_some]
      split
      · exact .boundary r
      · exact .kept _

/-! ## Shape (R2 to R4) -/

theorem SourceSet.add_ne_empty (x : SourceSet) (c : Source) : x.add c ≠ SourceSet.empty := by
  cases c <;> simp [SourceSet.add, SourceSet.empty]

/-- A trip leaves a record TRIPPED with at least one cause (R3, R111). -/
theorem LeaseRecord.shaped_trip {r : LeaseRecord} (h : r.Shaped) (c : Source) : (r.trip c).Shaped := by
  refine ⟨h.1, h.2.1, ?_⟩
  cases hp : r.phase <;> simp [LeaseRecord.trip, Phase.trip, hp, SourceSet.add_ne_empty]

theorem State.ClaimFits.blocks_length {s : State} {q : ClaimRequest} {k : LeaseNo} {g : Nat}
    {placed : List (Nat × ChannelNo)} (hf : s.ClaimFits q k g placed) : 1 ≤ q.blocks.length ∧ q.blocks.length ≤ 4 := by
  obtain ⟨ps, hsp⟩ := hf.spelled
  obtain ⟨-, -, -, -, h1, h4, -⟩ := hsp.fit
  have := hsp.count
  omega

/-- A boundary changes neither how many bindings a record has nor, but to RUNNING, its phase (R54 to R58). -/
theorem LeaseRecord.shaped_atBoundary {r : LeaseRecord} (h : r.Shaped) : r.atBoundary.Shaped := by
  obtain ⟨h1, h4, hph⟩ := h
  unfold LeaseRecord.atBoundary
  split
  case h_1 => exact ⟨h1, h4, trivial⟩
  case h_2 => exact ⟨by simpa using h1, by simpa using h4, trivial⟩
  case h_3 hp =>
    rw [hp] at hph
    exact ⟨by simpa using h1, by simpa using h4, by simpa [hp] using hph⟩
  all_goals exact ⟨h1, h4, hph⟩

/-- Each move of a record keeps its shape. -/
theorem LeaseMove.shaped {l l' : Lease} (hm : LeaseMove l l') (h : leaseHas l LeaseRecord.Shaped) :
    leaseHas l' LeaseRecord.Shaped := by
  cases hm with
  | kept => exact h
  | freed => trivial
  | tripped r cause => exact LeaseRecord.shaped_trip h cause
  | claimed n hf =>
    obtain ⟨h1, h4⟩ := hf.blocks_length
    exact ⟨by simpa [ClaimRequest.record] using h1, by simpa [ClaimRequest.record] using h4, trivial⟩
  | amended hf => exact ⟨h.1, h.2.1, hf.spelled.1⟩
  | @drained r plan phase step =>
    refine ⟨h.1, h.2.1, ?_⟩
    cases plan with
    | atBoundary => trivial
    | ramp d => exact step d rfl
  | cleared before after =>
    refine ⟨h.1, h.2.1, ?_⟩
    rcases after with rfl | ⟨causes, p, rfl, hne⟩
    · trivial
    · exact hne
  | adopted => exact h
  | boundary r => exact LeaseRecord.shaped_atBoundary h

theorem State.TableMove.leasesShaped {s t : State} (hm : State.TableMove s t) (h : s.LeasesShaped) : t.LeasesShaped :=
  fun n => (hm.leaseMove n).shaped (h n)

/-! ## Safe levels and gates (R7, R30, R72) -/

/-- Settings fit a binding as the claim and AMEND checks leave them: the safe pair of a complementary binding passes
under their polarity, and their gate and dead band fit its kind. -/
def Binding.Allows (b : Binding) (st : Settings) : Prop :=
  (∀ k, b.complement = some k → safePairFits st.polarity b.safe k.safe = true)
    ∧ settingsFit st b.complement.isSome = true

/-- Each binding of a record allows its active settings, and its staged ones where the lease has a staged change. -/
def LeaseRecord.SettingsAllowed (r : LeaseRecord) : Prop :=
  ∀ i b, r.bindings[i]? = some b → b.Allows b.active ∧ ∀ st, r.stagedAt i = some st → b.Allows st

/-- The safe pairs and the gates of the whole part fit exactly when every record's settings are allowed. -/
theorem State.settingsAllowed_iff {s : State} :
    (∀ n : LeaseNo, leaseHas s.leases[n] LeaseRecord.SettingsAllowed) ↔ s.SafePairsFit ∧ s.GatesFit := by
  simp only [State.SafePairsFit, State.GatesFit, leaseHas_iff]
  constructor
  · intro h
    refine ⟨fun n r hr x hx k hk => ?_, fun n r hr x hx => ?_⟩
    · obtain ⟨ha, hs⟩ := h n r hr x.2 x.1 (mem_zipIdx_iff.1 hx)
      exact ⟨ha.1 k hk, fun st hst => (hs st hst).1 k hk⟩
    · obtain ⟨ha, hs⟩ := h n r hr x.2 x.1 (mem_zipIdx_iff.1 hx)
      exact ⟨ha.2, fun st hst => (hs st hst).2⟩
  · rintro ⟨hsafe, hgate⟩ n r hr i b hb
    have hx : (b, i) ∈ r.bindings.zipIdx := mem_zipIdx_iff.2 hb
    obtain ⟨g1, g2⟩ := hgate n r hr _ hx
    exact ⟨⟨fun k hk => (hsafe n r hr _ hx k hk).1, g1⟩,
      fun st hst => ⟨fun k hk => (hsafe n r hr _ hx k hk).2 st hst, g2 st hst⟩⟩

/-- A record of the same bindings that stages nothing has its settings allowed. -/
theorem LeaseRecord.SettingsAllowed.unstaged {r r' : LeaseRecord} (h : r.SettingsAllowed)
    (hb : r'.bindings = r.bindings) (hs : ∀ i, r'.stagedAt i = none) : r'.SettingsAllowed :=
  fun i b hi => ⟨(h i b (hb ▸ hi)).1, fun st hst => by simp [hs i] at hst⟩

@[simp] theorem LeaseRecord.stagedAt_trip (r : LeaseRecord) (c : Source) (i : Nat) : (r.trip c).stagedAt i = none := by
  cases hp : r.phase <;> simp [LeaseRecord.trip, Phase.trip, LeaseRecord.stagedAt, hp]

theorem amendSafeFits_iff {z : Binding × Settings} :
    amendSafeFits z = true ↔ ∀ k, z.1.complement = some k → safePairFits z.2.polarity z.1.safe k.safe = true := by
  unfold amendSafeFits
  cases z.1.complement <;> simp

/-- An accepted amend stages settings that the bindings allow (R70, R72, R73). -/
theorem State.AmendFits.allowed {s : State} {k : LeaseNo} {r : LeaseRecord} {staged : List Settings}
    (hf : s.AmendFits k r staged) {i : Nat} {b : Binding} {st : Settings} (hb : r.bindings[i]? = some b)
    (hst : staged[i]? = some st) : b.Allows st := by
  obtain ⟨-, ps, hsp⟩ := hf.spelled
  obtain ⟨b', hb', hblock⟩ := hsp i st hst
  obtain rfl : b = b' := by simpa [hb'] using hb.symm
  refine ⟨amendSafeFits_iff.1 (hf.safe (b, st) ?_), settingsFit_iff.2 ⟨hblock.single, hblock.complementary⟩⟩
  exact List.mem_of_getElem? (List.getElem?_zip_eq_some.2 ⟨hb, hst⟩)

/-- A block of an accepted claim makes a binding that allows the block's settings (R24 to R30, R37). -/
theorem State.ClaimFits.allowed {s : State} {q : ClaimRequest} {k : LeaseNo} {g : Nat}
    {placed : List (Nat × ChannelNo)} (hf : s.ClaimFits q k g placed) {i : Nat} {x : ClaimBlock}
    (hx : q.blocks[i]? = some x) (c : ChannelNo) : (x.binding c).Allows x.settings := by
  obtain ⟨ps, hsp⟩ := hf.spelled
  obtain ⟨hblock, -⟩ := hsp.blocks i x hx
  have hsafe := hf.safe x (List.mem_of_getElem? hx)
  have hcomp : (x.binding c).complement.isSome = x.complementPin.isSome := by simp [ClaimBlock.binding]
  refine ⟨fun y hy => ?_, ?_⟩
  · obtain ⟨p, hp, rfl⟩ := Option.map_eq_some_iff.1 hy
    have : safePairFits x.settings.polarity x.safe x.complementSafe = true := by
      simpa [ClaimBlock.safeFits, hp] using hsafe
    exact this
  · rw [hcomp]
    exact settingsFit_iff.2 ⟨hblock.single, hblock.complementary⟩

/-- A boundary keeps the settings allowed: a commit makes allowed settings the active ones, a ramp lowers a duty
(R54 to R58). -/
theorem LeaseRecord.SettingsAllowed.atBoundary {r : LeaseRecord} (h : r.SettingsAllowed) :
    r.atBoundary.SettingsAllowed := by
  unfold LeaseRecord.atBoundary
  split
  case h_1 => exact h.unstaged rfl fun i => rfl
  case h_2 staged hp =>
    intro i b hi
    rw [getElem?_commitBindings, Option.map_eq_some_iff] at hi
    obtain ⟨b', hb', rfl⟩ := hi
    refine ⟨?_, fun st hst => by simp [LeaseRecord.stagedAt] at hst⟩
    obtain ⟨ha, hs⟩ := h i b' hb'
    cases hst : staged[i]? with
    | none => exact ha
    | some st => exact hs st (by simpa [LeaseRecord.stagedAt, hp] using hst)
  case h_3 step hp =>
    intro i b hi
    rw [List.getElem?_map, Option.map_eq_some_iff] at hi
    obtain ⟨b', hb', rfl⟩ := hi
    exact ⟨(h i b' hb').1, fun st hst => by simp [LeaseRecord.stagedAt, hp] at hst⟩
  all_goals exact h

/-- Each move of a record keeps its settings allowed. -/
theorem LeaseMove.settingsAllowed {l l' : Lease} (hm : LeaseMove l l')
    (h : leaseHas l LeaseRecord.SettingsAllowed) : leaseHas l' LeaseRecord.SettingsAllowed := by
  cases hm with
  | kept => exact h
  | freed => trivial
  | tripped r cause => exact h.unstaged rfl fun i => r.stagedAt_trip cause i
  | claimed n hf =>
    intro i b hi
    rw [ClaimRequest.record, ClaimRequest.getElem?_bindings, Option.map_eq_some_iff] at hi
    obtain ⟨x, hx, rfl⟩ := hi
    exact ⟨hf.allowed hx _, fun st hst => by simp [ClaimRequest.record, LeaseRecord.stagedAt] at hst⟩
  | amended hf => exact fun i b hi => ⟨(h i b hi).1, fun st hst => hf.allowed hi hst⟩
  | drained => exact h.unstaged rfl fun i => rfl
  | cleared before after =>
    refine h.unstaged rfl fun i => ?_
    rcases after with rfl | ⟨causes, p, rfl, -⟩ <;> rfl
  | adopted => exact h
  | boundary r => exact h.atBoundary

/-- Settles O53: each move of the tables keeps every record in shape and its settings allowed, so every step does. -/
theorem stepsKeepTheLeaseShapes : Obligations.StepsKeepTheLeaseShapes := by
  unfold Obligations.StepsKeepTheLeaseShapes
  intro s t hshape hsafe hgate hstep
  refine ⟨State.invariant_step (fun _ _ hm => hm.leasesShaped) hstep hshape, State.settingsAllowed_iff.1 ?_⟩
  exact State.invariant_step (I := fun u => ∀ n : LeaseNo, leaseHas u.leases[n] LeaseRecord.SettingsAllowed)
    (fun _ _ hm h n => (hm.leaseMove n).settingsAllowed (h n)) hstep (State.settingsAllowed_iff.2 ⟨hsafe, hgate⟩)

end Sys2Proof.Machine
end

section
/-! The wiring of the leases: which timebase, channels and pins a record names. Most moves of the tables change none of it
(`State.SameWiring`), and the counts and the period holders follow it (R48, R64, R65, R100). -/

namespace Sys2Proof.Machine

/-! ## Wiring -/

/-- What a binding names of the part (R7): the channel and pin of each role, and the drive mode. -/
def Binding.wiring (b : Binding) : List (Role × ChannelNo × PinNo) × DriveMode := (b.halves, b.drive)

/-- What an entry of the lease table names of the part: its timebase and its bindings' wiring. -/
def leaseWiring (l : Lease) : Option (TimebaseNo × List (List (Role × ChannelNo × PinNo) × DriveMode)) :=
  l.map fun r => (r.timebase, r.bindings.map Binding.wiring)

theorem boundTo_of_wiring {l l' : Lease} (h : leaseWiring l' = leaseWiring l) (tb : TimebaseNo) :
    boundTo l' tb = boundTo l tb := by
  cases l <;> cases l' <;> simp_all [leaseWiring, boundTo]

theorem leaseBindingsOn_of_wiring {l l' : Lease} (h : leaseWiring l' = leaseWiring l) (tb : TimebaseNo) :
    leaseBindingsOn l' tb = leaseBindingsOn l tb := by
  cases l with
  | none => cases l' <;> simp_all [leaseWiring]
  | some r =>
    cases l' with
    | none => simp [leaseWiring] at h
    | some r' =>
      simp only [leaseWiring, Option.map_some, Option.some.injEq, Prod.mk.injEq] at h
      have hlen : r'.bindings.length = r.bindings.length := by simpa using congrArg List.length h.2
      simp only [leaseBindingsOn, h.1, hlen]

/-- A record has the wiring of another: of the same timebase, binding by binding. -/
theorem exists_of_wiring {l l' : Lease} (h : leaseWiring l' = leaseWiring l) {r' : LeaseRecord} (hr : l' = some r') :
    ∃ r, l = some r ∧ r.timebase = r'.timebase
      ∧ ∀ (i : Nat) (b' : Binding), r'.bindings[i]? = some b' → ∃ b : Binding, r.bindings[i]? = some b ∧ b.wiring = b'.wiring := by
  subst hr
  cases l with
  | none => simp [leaseWiring] at h
  | some r =>
    simp only [leaseWiring, Option.map_some, Option.some.injEq, Prod.mk.injEq] at h
    refine ⟨r, rfl, h.1.symm, fun i b' hb' => ?_⟩
    have := congrArg (fun xs => xs[i]?) h.2
    simp only [List.getElem?_map, hb', Option.map_some] at this
    obtain ⟨b, hb, hw⟩ := Option.map_eq_some_iff.1 this.symm
    exact ⟨b, hb, hw⟩

/-- No lease's wiring changes, nor what is held and owned, nor the holder of a timebase. -/
structure State.SameWiring (s t : State) : Prop where
  leases : ∀ n : LeaseNo, leaseWiring t.leases[n] = leaseWiring s.leases[n]
  channels : t.channels = s.channels
  places : ∀ c : ChannelNo, t.engines[c].place? = s.engines[c].place?
  owners : ∀ p : PinNo, t.pins[p].owner = s.pins[p].owner
  holders : ∀ tb : TimebaseNo, t.timebases[tb].holder? = s.timebases[tb].holder?

@[simp] theorem leaseWiring_trip (r : LeaseRecord) (c : Source) :
    leaseWiring (some (r.trip c)) = leaseWiring (some r) := rfl

theorem Binding.wiring_active (b : Binding) (st : Settings) : { b with active := st }.wiring = b.wiring := rfl

/-- A boundary changes active settings alone of a binding, and no timebase of a record. -/
@[simp] theorem leaseWiring_atBoundary (r : LeaseRecord) : leaseWiring (some r.atBoundary) = leaseWiring (some r) := by
  unfold LeaseRecord.atBoundary
  split
  case h_2 staged hp =>
    simp only [leaseWiring, Option.map_some, Option.some.injEq, Prod.mk.injEq, true_and]
    refine List.ext_getElem? fun i => ?_
    simp [getElem?_commitBindings, Function.comp_def, Binding.wiring_active]
  case h_3 step hp => simp [leaseWiring, Function.comp_def, Binding.wiring_active]
  all_goals rfl

@[simp] theorem Engine.place?_hold (e : Engine) : e.hold.place? = e.place? := by cases e <;> rfl

@[simp] theorem Engine.place?_dropStage (e : Engine) : e.dropStage.place? = e.place? := by
  cases e <;> rfl

@[simp] theorem Engine.place?_stage (staged : List Settings) (e : Engine) : (e.stage staged).place? = e.place? := by
  cases e <;> rfl

@[simp] theorem Engine.place?_updateEdges (period : Nat) (e : Engine) : (e.updateEdges period).place? = e.place? := by
  cases e with
  | generating u d o => cases h : u.place.role <;> simp [Engine.updateEdges, Engine.place?, h]
  | _ => rfl

@[simp] theorem Engine.place?_atBoundary (r : LeaseRecord) (e : Engine) : (e.atBoundary r).place? = e.place? := by
  unfold Engine.atBoundary
  split
  all_goals cases e <;> rfl

@[simp] theorem Engine.place?_boundaryEngine (l : Lease) (tb : TimebaseNo) (period : Nat) (e : Engine) :
    (boundaryEngine l tb period e).place? = e.place? := by
  unfold boundaryEngine
  split
  · rfl
  · split
    · simp
    · rfl

theorem Engine.place?_bare (e : Engine) : e.bare.place? = e.place? := by cases e <;> rfl

/-- A change of the engines of each lease that keeps their places keeps every place. -/
theorem State.place?_mapEngines {s : State} {f : LeaseNo → Engine → Engine} (hf : ∀ n e, (f n e).place? = e.place?)
    (c : ChannelNo) : (s.mapEngines f).engines[c].place? = s.engines[c].place? := by
  simp only [Fin.getElem_fin, State.engines_mapEngines]
  split
  · rfl
  · rw [hf]

@[simp] theorem Timebase.holder?_recount (t : Timebase) (old new : Nat) : (t.recount old new).holder? = t.holder? := rfl

theorem State.holder?_setLeases (s : State) (ls : Vector Lease 16) (tb : TimebaseNo) :
    (s.setLeases ls).timebases[tb].holder? = s.timebases[tb].holder? := by
  simp

/-- A change of the engines, places kept, and then of one record, its wiring kept, keeps the wiring. -/
theorem State.sameWiring_put {s : State} {f : LeaseNo → Engine → Engine} (hf : ∀ n e, (f n e).place? = e.place?)
    {k : LeaseNo} {r r' : LeaseRecord} (hr : s.leases[k] = some r)
    (hw : leaseWiring (some r') = leaseWiring (some r)) :
    s.SameWiring ((s.mapEngines f).putLease k (some r')) := by
  refine ⟨fun n => ?_, by simp, fun c => ?_, by simp, fun tb => ?_⟩
  · simp only [Fin.getElem_fin, State.leases_putLease, State.mapEngines_leases]
    split
    · rename_i hn
      obtain rfl := Fin.ext hn
      rw [hw, ← hr]; rfl
    · rfl
  · simp only [State.putLease_engines, State.place?_mapEngines hf]
  · rw [State.putLease, State.holder?_setLeases]; rfl

theorem State.sameWiring_putLease {s : State} {k : LeaseNo} {r r' : LeaseRecord} (hr : s.leases[k] = some r)
    (hw : leaseWiring (some r') = leaseWiring (some r)) : s.SameWiring (s.putLease k (some r')) := by
  refine ⟨fun n => ?_, by simp, by simp, by simp, fun tb => State.holder?_setLeases _ _ _⟩
  simp only [Fin.getElem_fin, State.leases_putLease]
  split
  · rename_i hn
    obtain rfl := Fin.ext hn
    rw [hw, ← hr]; rfl
  · rfl

/-- A timebase given another record with the same holder keeps the wiring. -/
theorem State.sameWiring_setTimebase {s : State} {tb : TimebaseNo} {y : Timebase}
    (h : y.holder? = s.timebases[tb].holder?) : s.SameWiring (s.setTimebase tb y) := by
  refine ⟨by simp, by simp, by simp, by simp, fun j => ?_⟩
  simp only [Fin.getElem_fin, State.timebases_setTimebase]
  split
  · rename_i hj
    obtain rfl := Fin.ext hj
    exact h
  · rfl

theorem State.SameTables.sameWiring {s t : State} (h : s.SameTables t) : s.SameWiring t :=
  ⟨fun n => by rw [h.leases], h.channels,
    fun c => by rw [← Engine.place?_bare, h.engines, Engine.place?_bare], h.owners, fun tb => by rw [h.timebases]⟩

/-- An entry of the table mapped by a change of records that keeps their wiring. -/
theorem leaseWiring_map {l : Lease} {f : LeaseRecord → LeaseRecord}
    (hf : ∀ r, leaseWiring (some (f r)) = leaseWiring (some r)) : leaseWiring (l.map f) = leaseWiring l := by
  cases l with
  | none => rfl
  | some r => exact hf r

theorem State.sameWiring_takeTrip (s : State) (reached : LeaseRecord → Bool) (cause : Source) :
    s.SameWiring (s.takeTrip reached cause) := by
  refine ⟨fun n => ?_, by simp, fun c => ?_, by simp, by simp⟩
  · simp only [Fin.getElem_fin, State.leases_takeTrip]
    refine leaseWiring_map fun r => ?_
    split <;> simp
  · simp only [Fin.getElem_fin, State.engines_takeTrip]
    split
    · rfl
    · split <;> simp

theorem State.timebases_moveBoundary (s : State) (tb : TimebaseNo) (x : TimebaseRun) (j : Nat) (h : j < 4) :
    (s.moveBoundary tb x).timebases[j]
      = if j = tb.val then (s.timebases[tb].recount (bindingsOn s.leases tb)
            (bindingsOn (boundaryLeases s.leases tb) tb)).atBoundary x
        else s.timebases[j].recount (bindingsOn s.leases ⟨j, h⟩) (bindingsOn (boundaryLeases s.leases tb) ⟨j, h⟩) := by
  simp [State.moveBoundary]

theorem State.engines_moveBoundary (s : State) (tb : TimebaseNo) (x : TimebaseRun) :
    (s.moveBoundary tb x).engines = (s.mapEngines fun n e => boundaryEngine s.leases[n] tb x.coming e).engines := by
  simp only [State.moveBoundary, State.setTimebase_engines, State.setLeases_engines]
  rfl

theorem State.sameWiring_moveBoundary {s : State} {tb : TimebaseNo} {x : TimebaseRun}
    (run : s.timebases[tb].run = some x) : s.SameWiring (s.moveBoundary tb x) := by
  refine ⟨fun n => ?_, by simp [State.moveBoundary], fun c => ?_, by simp [State.moveBoundary], fun j => ?_⟩
  · simp only [Fin.getElem_fin, State.leases_moveBoundary]
    refine leaseWiring_map fun r => ?_
    split <;> simp
  · rw [State.engines_moveBoundary, State.place?_mapEngines fun n e => Engine.place?_boundaryEngine _ _ _ e]
  · simp only [Fin.getElem_fin, State.timebases_moveBoundary]
    split
    · rename_i hj
      obtain rfl := Fin.ext hj
      simp only [Fin.getElem_fin] at run
      simp [Timebase.holder?, Timebase.atBoundary, run]
    · simp

/-! ## Counts (R48, R100) -/

theorem State.CountsAgree.congr {s t : State} (h : s.CountsAgree) (hl : t.leases = s.leases)
    (ht : ∀ tb : TimebaseNo, t.timebases[tb].refCount = s.timebases[tb].refCount)
    (hc : ∀ c : Carrier, (t.carrier c).inUse = (s.carrier c).inUse) : t.CountsAgree :=
  ⟨fun tb => by rw [ht, hl, h.1], fun c => by rw [hc, hl, h.2]⟩

theorem bindingsOn_none (tb : TimebaseNo) : bindingsOn (Vector.replicate 16 none) tb = 0 := by
  revert tb; decide

theorem carrierUses_none (c : Carrier) : carrierUses (Vector.replicate 16 none) c = 0 := by
  cases c <;> decide

theorem State.countsAgree_fullReset (s : State) : s.fullReset.CountsAgree :=
  ⟨fun tb => by simp [State.fullReset, State.reset, Timebase.reset, bindingsOn_none],
    fun c => by cases c <;> simp [State.fullReset, State.reset, State.carrier, CarrierUnit.reset, carrierUses_none]⟩

theorem State.countsAgree_freeLeases {s : State} (h : s.CountsAgree) (w : LeaseNo → Bool) :
    (s.freeLeases w).CountsAgree := by
  have hset : (s.setLeases (freedLeases s.leases w)).CountsAgree := State.countsAgree_setLeases _ h
  refine hset.congr ?_ (fun tb => ?_) fun c => ?_
  · refine table_ext fun n => ?_
    simp [freedLeases]
  · simp only [Fin.getElem_fin, State.timebases_freeLeases, State.timebases_setLeases]
    split <;> simp
  · rw [State.carrier_freeLeases, State.carrier_setLeases]

theorem State.countsAgree_setTimebase {s : State} (h : s.CountsAgree) {tb : TimebaseNo} {y : Timebase}
    (hy : y.refCount = s.timebases[tb].refCount) : (s.setTimebase tb y).CountsAgree := by
  refine h.congr rfl (fun j => ?_) fun c => by cases c <;> simp [State.carrier]
  simp only [Fin.getElem_fin, State.timebases_setTimebase]
  split
  · rename_i hj
    obtain rfl := Fin.ext hj
    exact hy
  · rfl

@[simp] theorem Timebase.refCount_start (t : Timebase) (p : Nat) (c : Fin 8) (k : LeaseNo) :
    (t.start p c k).refCount = t.refCount := by
  unfold Timebase.start
  split <;> rfl

/-- Each move of the tables keeps the counts right. -/
theorem State.TableMove.countsAgree {s t : State} (hm : State.TableMove s t) (h : s.CountsAgree) : t.CountsAgree := by
  cases hm with
  | same hs => exact h.congr hs.leases (fun tb => by rw [hs.timebases]) hs.uses
  | reset => exact s.countsAgree_fullReset
  | tripped reached cause => exact State.countsAgree_setLeases _ (h.congr rfl (fun _ => rfl) fun c => by cases c <;> rfl)
  | freed which => exact State.countsAgree_freeLeases h which
  | claimed n hf =>
    refine State.countsAgree_setTimebase (State.countsAgree_setLeases _ ?_) (Timebase.refCount_start _ _ _ _)
    exact h.congr rfl (fun _ => rfl) fun c => by cases c <;> rfl
  | amended hf => exact State.countsAgree_setLeases _ (h.congr rfl (fun _ => rfl) fun c => by cases c <;> rfl)
  | drained => exact State.countsAgree_setLeases _ (h.congr rfl (fun _ => rfl) fun c => by cases c <;> rfl)
  | cleared => exact State.countsAgree_setLeases _ h
  | adopted => exact State.countsAgree_setLeases _ h
  | counted => exact State.countsAgree_setTimebase h rfl
  | retuned => exact State.countsAgree_setTimebase h rfl
  | boundary =>
    refine State.countsAgree_setTimebase (State.countsAgree_setLeases _ ?_) rfl
    exact h.congr rfl (fun _ => rfl) fun c => by cases c <;> rfl

/-! ## Period holders (R48, R64, R65) -/

theorem bindingsOn_eq_zero {ls : Vector Lease 16} {tb : TimebaseNo} (h : ∀ n : LeaseNo, boundTo ls[n] tb = false) :
    bindingsOn ls tb = 0 := by
  unfold bindingsOn
  refine List.sum_eq_zero fun x hx => ?_
  obtain ⟨n, -, rfl⟩ := List.mem_map.1 hx
  have := h n
  cases hl : ls[n] with
  | none => rfl
  | some r =>
    simp only [hl, boundTo, beq_eq_false_iff_ne] at this
    simp [leaseBindingsOn, this]

/-- A shaped lease bound to a timebase has a binding on it (R2, R48). -/
theorem bindingsOn_ne_zero {ls : Vector Lease 16} {tb : TimebaseNo} {n : LeaseNo} {r : LeaseRecord}
    (hr : ls[n] = some r) (htb : r.timebase = tb) (hs : r.Shaped) : bindingsOn ls tb ≠ 0 := by
  unfold bindingsOn
  intro h
  have := List.sum_eq_zero_iff.1 h _ (List.mem_map.2 ⟨n, List.mem_finRange n, rfl⟩)
  rw [hr, leaseBindingsOn, if_pos htb] at this
  exact absurd hs.1 (by omega)

theorem boundTo_iff {l : Lease} {tb : TimebaseNo} : boundTo l tb = true ↔ ∃ r, l = some r ∧ r.timebase = tb := by
  cases l <;> simp [boundTo]

/-- The record of a timebase says of a lease table what R48 says. -/
def Timebase.HolderAgrees (t : Timebase) (ls : Vector Lease 16) (tb : TimebaseNo) : Prop :=
  match t.run with
  | none => t.refCount = 0
  | some x => t.refCount ≠ 0 ∧ boundTo ls[x.holder] tb = true

theorem Timebase.holderAgrees_none {t : Timebase} {ls : Vector Lease 16} {tb : TimebaseNo} (h : t.run = none) :
    t.HolderAgrees ls tb ↔ t.refCount = 0 := by
  simp [Timebase.HolderAgrees, h]

theorem Timebase.holderAgrees_some {t : Timebase} {x : TimebaseRun} {ls : Vector Lease 16} {tb : TimebaseNo}
    (h : t.run = some x) : t.HolderAgrees ls tb ↔ t.refCount ≠ 0 ∧ boundTo ls[x.holder] tb = true := by
  simp [Timebase.HolderAgrees, h]

theorem State.holdersAgree_iff {s : State} :
    s.HoldersAgree ↔ ∀ tb : TimebaseNo, s.timebases[tb].HolderAgrees s.leases tb := by
  refine forall_congr' fun tb => ?_
  cases h : s.timebases[tb].run with
  | none => exact (Timebase.holderAgrees_none h).symm
  | some x => exact (Timebase.holderAgrees_some h).symm

/-- The holders agree as before where the wiring is as before and the counts are right on both sides. -/
theorem State.HoldersAgree.of_sameWiring {s t : State} (h : s.HoldersAgree) (hw : s.SameWiring t)
    (hs : s.CountsAgree) (ht : t.CountsAgree) : t.HoldersAgree := by
  rw [State.holdersAgree_iff] at h ⊢
  intro tb
  have hcount : t.timebases[tb].refCount = s.timebases[tb].refCount := by
    rw [ht.1, hs.1]
    exact bindingsOn_congr fun n => leaseBindingsOn_of_wiring (hw.leases n) tb
  have hh := hw.holders tb
  specialize h tb
  cases hsr : s.timebases[tb].run with
  | none =>
    have htr : t.timebases[tb].run = none := by simpa [-Fin.getElem_fin, Timebase.holder?, hsr] using hh
    rw [Timebase.holderAgrees_none htr, hcount]
    exact (Timebase.holderAgrees_none hsr).1 h
  | some x =>
    obtain ⟨y, htr, hy⟩ : ∃ y, t.timebases[tb].run = some y ∧ y.holder = x.holder := by
      simpa [-Fin.getElem_fin, Timebase.holder?, hsr] using hh
    obtain ⟨h1, h2⟩ := (Timebase.holderAgrees_some hsr).1 h
    rw [Timebase.holderAgrees_some htr, hcount, boundTo_of_wiring (hw.leases _), hy]
    exact ⟨h1, h2⟩

/-- The lowest-numbered lease bound to a timebase is bound to it; there is one while some binding is on it. -/
theorem exists_lowestBound {ls : Vector Lease 16} {tb : TimebaseNo} (h : bindingsOn ls tb ≠ 0) :
    ∃ n, lowestBound ls tb = some n ∧ boundTo ls[n] tb = true ∧ ∀ j, j < n → boundTo ls[j] tb = false := by
  cases hl : lowestBound ls tb with
  | none =>
    refine absurd (bindingsOn_eq_zero fun n => ?_) h
    simpa using List.find?_eq_none.1 hl n (List.mem_finRange n)
  | some n =>
    refine ⟨n, rfl, by simpa using List.find?_some hl, fun j hj => ?_⟩
    obtain ⟨-, i, hi, hin, hbefore⟩ := List.find?_eq_some_iff_getElem.1 hl
    have hij : i = n.val := by simpa [Fin.ext_iff] using hin
    have := hbefore j.val (by rw [hij]; exact hj)
    simpa using this

/-- A settled timebase: IDLE where no binding is left, else with the holder of R64 (R64, R65). -/
theorem Timebase.settle_cases {t : Timebase} {x : TimebaseRun} {ls : Vector Lease 16} {tb : TimebaseNo}
    (hrun : t.run = some x) (hcount : t.refCount = bindingsOn ls tb) :
    (t.refCount = 0 ∧ t.settle ls tb = { t with counter := 0, run := none })
      ∨ (t.refCount ≠ 0 ∧ ∃ h, IsHolderAfter ls tb x.holder h ∧ t.settle ls tb = { t with run := some { x with holder := h } }) := by
  unfold Timebase.settle
  simp only [hrun]
  by_cases h0 : t.refCount = 0
  · exact .inl ⟨h0, by simp [h0]⟩
  · refine .inr ⟨h0, ?_⟩
    rw [if_neg h0]
    by_cases hb : boundTo ls[x.holder] tb = true
    · refine ⟨x.holder, by rw [IsHolderAfter, if_pos hb], ?_⟩
      rw [if_pos hb]
      obtain ⟨p, c, k, r⟩ := t
      simp_all
    · obtain ⟨n, hn, h1, h2⟩ := exists_lowestBound (hcount ▸ h0)
      exact ⟨n, by simp only [IsHolderAfter, if_neg hb]; exact ⟨h1, h2⟩, by rw [if_neg hb, hn]⟩

theorem Timebase.settle_idle {t : Timebase} {ls : Vector Lease 16} {tb : TimebaseNo} (h : t.run = none) :
    t.settle ls tb = t := by
  simp only [Timebase.settle, h]

theorem IsHolderAfter.boundTo {ls : Vector Lease 16} {tb : TimebaseNo} {before after : LeaseNo}
    (h : IsHolderAfter ls tb before after) : boundTo ls[after] tb = true := by
  unfold IsHolderAfter at h
  split at h
  · rwa [h]
  · exact h.1

theorem leavesTimebase_eq_false {ls : Vector Lease 16} {w : LeaseNo → Bool} {tb : TimebaseNo} :
    leavesTimebase ls w tb = false ↔ ∀ k, w k = true → boundTo ls[k] tb = false := by
  simp [leavesTimebase]

theorem getElem_freedLeases (ls : Vector Lease 16) (w : LeaseNo → Bool) (k : LeaseNo) :
    (freedLeases ls w)[k] = if w k then none else ls[k] := by
  simp [freedLeases]

/-- A lease table that no freed lease leaves a timebase of is the same to that timebase. -/
theorem boundTo_freed {ls : Vector Lease 16} {w : LeaseNo → Bool} {tb : TimebaseNo}
    (h : ∀ k, w k = true → boundTo ls[k] tb = false) (k : LeaseNo) :
    boundTo (freedLeases ls w)[k] tb = boundTo ls[k] tb := by
  rw [getElem_freedLeases]
  split
  · rw [h k ‹_›]; rfl
  · rfl

theorem bindingsOn_freed {ls : Vector Lease 16} {w : LeaseNo → Bool} {tb : TimebaseNo}
    (h : ∀ k, w k = true → boundTo ls[k] tb = false) : bindingsOn (freedLeases ls w) tb = bindingsOn ls tb := by
  refine bindingsOn_congr fun k => ?_
  rw [getElem_freedLeases]
  split
  · have := h k ‹_›
    cases hl : ls[k] with
    | none => rfl
    | some r => simp_all [boundTo, leaseBindingsOn]
  · rfl

/-- A timebase that no freed lease was bound to is as before (R16). -/
theorem State.timebases_freeLeases_kept {s : State} {w : LeaseNo → Bool} {tb : TimebaseNo}
    (h : ∀ k, w k = true → boundTo s.leases[k] tb = false) : (s.freeLeases w).timebases[tb] = s.timebases[tb] := by
  have hl : leavesTimebase s.leases w ⟨tb.val, tb.isLt⟩ = false := leavesTimebase_eq_false.2 h
  have hb : bindingsOn (freedLeases s.leases w) ⟨tb.val, tb.isLt⟩ = bindingsOn s.leases ⟨tb.val, tb.isLt⟩ :=
    bindingsOn_freed h
  rw [Fin.getElem_fin, State.timebases_freeLeases, hl, hb]
  simp

/-- A timebase record with another reference count. -/
def Timebase.withCount (t : Timebase) (k : Nat) : Timebase := { t with refCount := k }

@[simp] theorem Timebase.run_withCount (t : Timebase) (k : Nat) : (t.withCount k).run = t.run := rfl

@[simp] theorem Timebase.refCount_withCount (t : Timebase) (k : Nat) : (t.withCount k).refCount = k := rfl

/-- A timebase that some freed lease was bound to is settled with its count right (R16, R48). -/
theorem State.timebases_freeLeases_left {s : State} {w : LeaseNo → Bool} {tb : TimebaseNo} {k : LeaseNo}
    (hs : s.CountsAgree) (hw : w k = true) (hk : boundTo s.leases[k] tb = true) :
    (s.freeLeases w).timebases[tb]
      = (s.timebases[tb].withCount (bindingsOn (freedLeases s.leases w) tb)).settle (freedLeases s.leases w) tb := by
  have hl : leavesTimebase s.leases w ⟨tb.val, tb.isLt⟩ = true := by
    by_contra hn
    rw [leavesTimebase_eq_false.1 (Bool.eq_false_iff.2 hn) k hw] at hk
    cases hk
  have hc := hs.1 tb
  simp only [Fin.getElem_fin] at hc
  rw [Fin.getElem_fin, State.timebases_freeLeases, hl, if_pos rfl]
  simp [Timebase.recount, Timebase.withCount, hc]

/-- Either no freed lease was bound to a timebase, or one was. -/
theorem freed_bound_or (ls : Vector Lease 16) (w : LeaseNo → Bool) (tb : TimebaseNo) :
    (∀ k, w k = true → boundTo ls[k] tb = false) ∨ ∃ k, w k = true ∧ boundTo ls[k] tb = true := by
  by_cases h : ∃ k, w k = true ∧ boundTo ls[k] tb = true
  · exact .inr h
  · exact .inl fun k hw => by simpa using fun hb => h ⟨k, hw, hb⟩

/-- The leases that teardowns leave are those of the freed table. -/
theorem State.leases_freeLeases_eq (s : State) (w : LeaseNo → Bool) :
    (s.freeLeases w).leases = freedLeases s.leases w :=
  table_ext fun k => by simp [freedLeases]

/-- A timebase that the freed leases leave says what R48 says of the leases that remain, once it is settled. -/
theorem Timebase.holderAgrees_settle {t : Timebase} {ls : Vector Lease 16} {tb : TimebaseNo}
    (hidle : t.run = none → t.refCount = 0) (hcount : t.refCount = bindingsOn ls tb) :
    (t.settle ls tb).HolderAgrees ls tb := by
  cases hr : t.run with
  | none =>
    rw [Timebase.settle_idle hr, Timebase.holderAgrees_none hr]
    exact hidle hr
  | some x =>
    rcases Timebase.settle_cases hr hcount with ⟨h0, he⟩ | ⟨h0, y, hy, he⟩ <;> rw [he]
    · exact (Timebase.holderAgrees_none rfl).2 h0
    · exact (Timebase.holderAgrees_some rfl).2 ⟨h0, hy.boundTo⟩

theorem bindingsOn_freed_eq_zero {ls : Vector Lease 16} {tb : TimebaseNo} (h : bindingsOn ls tb = 0)
    (w : LeaseNo → Bool) : bindingsOn (freedLeases ls w) tb = 0 := by
  unfold bindingsOn at h ⊢
  simp only [List.sum_eq_zero_iff, List.mem_map, List.mem_finRange, true_and, forall_exists_index,
    forall_apply_eq_imp_iff] at h ⊢
  intro n
  rw [getElem_freedLeases]
  split
  · rfl
  · exact h n

theorem State.holdersAgree_freeLeases {s : State} (hs : s.CountsAgree) (h : s.HoldersAgree) (w : LeaseNo → Bool) :
    (s.freeLeases w).HoldersAgree := by
  rw [State.holdersAgree_iff] at h ⊢
  intro tb
  specialize h tb
  rw [State.leases_freeLeases_eq]
  rcases freed_bound_or s.leases w tb with hnone | ⟨k, hw, hk⟩
  · rw [State.timebases_freeLeases_kept hnone]
    cases hr : s.timebases[tb].run with
    | none => rwa [Timebase.holderAgrees_none hr] at h ⊢
    | some x => rwa [Timebase.holderAgrees_some hr, boundTo_freed hnone, ← Timebase.holderAgrees_some hr]
  · rw [State.timebases_freeLeases_left hs hw hk]
    refine Timebase.holderAgrees_settle (fun hr => ?_) (Timebase.refCount_withCount _ _)
    rw [Timebase.run_withCount] at hr
    have h0 := (Timebase.holderAgrees_none hr).1 h
    rw [hs.1] at h0
    rw [Timebase.refCount_withCount]
    exact bindingsOn_freed_eq_zero h0 w

end Sys2Proof.Machine
end

section
/-! The tables of the leases agree through a step (R7, R8, R86, R88, R94): the moves that keep the wiring move the engines
with their leases, a teardown takes away all that a lease has, and a claim takes free channels and pins alone. -/

namespace Sys2Proof.Machine

/-! ## What an engine of a lease holds -/

/-- What an engine that serves a binding in a role holds (R86). -/
def servingUse (n : LeaseNo) (r : LeaseRecord) (i : Nat) (b : Binding) (role : Role) : EngineUse :=
  { place := { lease := n, index := i, role := role }, active := b.active, staged := r.stagedAt i }

/-- An engine serves a binding HELD while its lease shows safe levels, and else GENERATING (R9, R87). -/
theorem Engine.serves_iff {e : Engine} {n : LeaseNo} {r : LeaseRecord} {i : Nat} {b : Binding} {role : Role}
    {period : Nat} : e.Serves n r i b role period
      ↔ (r.phase.showsSafe = true ∧ e = .held (servingUse n r i b role))
        ∨ (r.phase.showsSafe = false
          ∧ ∃ o, e = .generating (servingUse n r i b role) (edgesFor role b.active period) o) := by
  cases e <;> simp [Engine.Serves, Engine.use?, servingUse]
  all_goals tauto

theorem Engine.Serves.place {e : Engine} {n : LeaseNo} {r : LeaseRecord} {i : Nat} {b : Binding} {role : Role}
    {period : Nat} (h : e.Serves n r i b role period) :
    e.place? = some { lease := n, index := i, role := role } := by
  rcases Engine.serves_iff.1 h with ⟨-, rfl⟩ | ⟨-, o, rfl⟩ <;> rfl

theorem Engine.lease?_eq (e : Engine) : e.lease? = e.place?.map (·.lease) := by cases e <;> rfl

theorem Engine.Serves.lease {e : Engine} {n : LeaseNo} {r : LeaseRecord} {i : Nat} {b : Binding} {role : Role}
    {period : Nat} (h : e.Serves n r i b role period) : e.lease? = some n := by
  rw [Engine.lease?_eq, h.place]; rfl

/-- Serving is a matter of what an engine holds, not of what it generates. -/
theorem Engine.Serves.of_bare {e e' : Engine} {n : LeaseNo} {r : LeaseRecord} {i : Nat} {b : Binding} {role : Role}
    {period : Nat} (h : e.Serves n r i b role period) (he : e'.bare = e.bare) : e'.Serves n r i b role period := by
  cases e <;> cases e' <;> simp_all [Engine.bare, Engine.Serves, Engine.use?]

/-- A record of the same phase whose binding keeps its active and staged settings is served as before. -/
theorem Engine.Serves.of_same {e : Engine} {n : LeaseNo} {r r' : LeaseRecord} {i : Nat} {b b' : Binding} {role : Role}
    {period : Nat} (h : e.Serves n r i b role period) (hp : r'.phase.showsSafe = r.phase.showsSafe)
    (hs : r'.stagedAt i = r.stagedAt i) (ha : b'.active = b.active) : e.Serves n r' i b' role period := by
  rw [Engine.serves_iff] at h ⊢
  simpa only [servingUse, hp, hs, ha] using h

/-! ## Engines through the moves -/

section moves

variable {e : Engine} {n : LeaseNo} {r : LeaseRecord} {i : Nat} {b : Binding} {role : Role} {period : Nat}

theorem Phase.showsSafe_trip (p : Phase) (c : Source) : (p.trip c).showsSafe = true := by cases p <;> rfl

/-- A trip holds the engine and drops its staged settings (R87, R111). -/
theorem Engine.Serves.trip (h : e.Serves n r i b role period) (c : Source) :
    e.hold.dropStage.Serves n (r.trip c) i b role period := by
  refine Engine.serves_iff.2 (.inl ⟨Phase.showsSafe_trip _ _, ?_⟩)
  rcases Engine.serves_iff.1 h with ⟨-, rfl⟩ | ⟨-, o, rfl⟩ <;>
    simp [Engine.hold, Engine.dropStage, Engine.mapUse, servingUse]

theorem Phase.showsSafe_of_amendable {p : Phase} (h : p.amendable = true) : p.showsSafe = false := by
  cases p <;> simp_all [Phase.amendable, Phase.showsSafe]

/-- An accepted amend stages in the engine what it stages in the record (R73, R74). -/
theorem Engine.Serves.stage (h : e.Serves n r i b role period) (hp : r.phase.amendable = true)
    (staged : List Settings) :
    (e.stage staged).Serves n { r with phase := .amendPending staged } i b role period := by
  refine Engine.serves_iff.2 (.inr ⟨rfl, ?_⟩)
  rcases Engine.serves_iff.1 h with ⟨hs, -⟩ | ⟨-, o, rfl⟩
  · rw [Phase.showsSafe_of_amendable hp] at hs; cases hs
  · exact ⟨o, rfl⟩

/-- A drain drops the staged settings and goes on generating (R11, R80). -/
theorem Engine.Serves.drain (h : e.Serves n r i b role period) (hp : r.phase.amendable = true) (plan : RetirePlan) :
    e.dropStage.Serves n { r with phase := .draining plan } i b role period := by
  refine Engine.serves_iff.2 (.inr ⟨rfl, ?_⟩)
  rcases Engine.serves_iff.1 h with ⟨hs, -⟩ | ⟨-, o, rfl⟩
  · rw [Phase.showsSafe_of_amendable hp] at hs; cases hs
  · exact ⟨o, rfl⟩

theorem Engine.updateEdges_generating (u : EngineUse) (d : Option Edges) (o : EngineOutput) (p : Nat) :
    (Engine.generating u d o).updateEdges p = .generating u (edgesFor u.place.role u.active p) o := by
  cases h : u.place.role <;> simp [Engine.updateEdges, edgesFor, h]

/-- A boundary moves an engine as it moves its lease: started, committed or ramped with it, under the period now in
force (R54, R55, R57, R87, R88, R92). -/
theorem Engine.Serves.atBoundary (h : e.Serves n r i b role period) (hb : r.bindings[i]? = some b) {b' : Binding}
    (hb' : r.atBoundary.bindings[i]? = some b') (coming : Nat) :
    ((e.atBoundary r).updateEdges coming).Serves n r.atBoundary i b' role coming := by
  rw [Engine.serves_iff] at h
  unfold LeaseRecord.atBoundary at hb' ⊢
  cases hp : r.phase with
  | armed =>
    simp only [hp, hb, Option.some.injEq] at hb' h ⊢
    subst hb'
    obtain ⟨-, rfl⟩ | ⟨hs, -⟩ := h
    · refine Engine.serves_iff.2 (.inr ⟨rfl, { inWindow := false, carrier := none }, ?_⟩)
      simp only [Engine.atBoundary, hp, Engine.updateEdges_generating]
      simp [servingUse, LeaseRecord.stagedAt, hp]
    · cases hs
  | running =>
    simp only [hp, hb, Option.some.injEq] at hb' h ⊢
    subst hb'
    obtain ⟨hs, -⟩ | ⟨-, o, rfl⟩ := h
    · cases hs
    · refine Engine.serves_iff.2 (.inr ⟨by rw [hp]; rfl, o, ?_⟩)
      simp only [Engine.atBoundary, hp, Engine.updateEdges_generating]
      rfl
  | amendPending staged =>
    simp only [hp, getElem?_commitBindings, hb, Option.map_some, Option.some.injEq] at hb' h ⊢
    subst hb'
    obtain ⟨hs, -⟩ | ⟨-, o, rfl⟩ := h
    · cases hs
    · refine Engine.serves_iff.2 (.inr ⟨rfl, o, ?_⟩)
      simp only [Engine.atBoundary, hp, Engine.mapUse, Engine.updateEdges_generating]
      simp [servingUse, LeaseRecord.stagedAt, hp]
  | draining plan =>
    obtain ⟨hs, -⟩ | ⟨-, o, rfl⟩ := h
    · simp [hp, Phase.showsSafe] at hs
    cases plan with
    | atBoundary =>
      simp only [hp, hb, Option.some.injEq] at hb' ⊢
      subst hb'
      refine Engine.serves_iff.2 (.inr ⟨by rw [hp]; rfl, o, ?_⟩)
      simp only [Engine.atBoundary, hp, Engine.updateEdges_generating]
      rfl
    | ramp step =>
      simp only [hp, List.getElem?_map, hb, Option.map_some, Option.some.injEq] at hb' ⊢
      subst hb'
      refine Engine.serves_iff.2 (.inr ⟨rfl, o, ?_⟩)
      simp only [Engine.atBoundary, hp, Engine.mapUse, Engine.updateEdges_generating]
      simp [servingUse, LeaseRecord.stagedAt, hp]
  | tripped causes pending =>
    simp only [hp, hb, Option.some.injEq] at hb' h ⊢
    subst hb'
    obtain ⟨-, rfl⟩ | ⟨hs, -⟩ := h
    · refine Engine.serves_iff.2 (.inl ⟨by rw [hp]; rfl, ?_⟩)
      simp [Engine.atBoundary, hp, Engine.updateEdges]
    · cases hs

end moves

/-! ## The tables read lease by lease -/

/-- The halves of a binding of a lease, by index. -/
def LeaseRecord.HasHalf (r : LeaseRecord) (i : Nat) (b : Binding) (h : Role × ChannelNo × PinNo) : Prop :=
  r.bindings[i]? = some b ∧ h ∈ b.halves

theorem State.bindingsServed_iff {s : State} {n : LeaseNo} {r : LeaseRecord} : s.BindingsServed n r
    ↔ ∀ i b h, r.HasHalf i b h → s.channels[h.2.1] = some { lease := n, index := i, role := h.1 }
      ∧ s.engines[h.2.1].Serves n r i b h.1 (s.periodOf n)
      ∧ s.pins[h.2.2].owner = some { place := { lease := n, index := i, role := h.1 }, drive := b.drive } := by
  constructor
  · rintro hs i b h ⟨hb, hh⟩
    exact hs (b, i) (mem_zipIdx_iff.2 hb) h hh
  · intro hs x hx h hh
    exact hs x.2 x.1 h ⟨mem_zipIdx_iff.1 hx, hh⟩

/-- The tables agree when each half of each lease's bindings is served, and each place held or owned is such a half. -/
theorem State.tablesAgree_iff {s : State} : s.TablesAgree
    ↔ (∀ n r, s.leases[n] = some r → s.BindingsServed n r) ∧ s.PlacesNamed ∧ s.EnginesMatchMap := by
  simp only [State.TablesAgree, leaseHas_iff]

/-- The period in force of the timebase of a lease, read from the two records. -/
theorem State.periodOf_eq {s : State} {n : LeaseNo} {r : LeaseRecord} {tb : TimebaseNo} (h : s.leases[n] = some r)
    (htb : r.timebase = tb) : s.periodOf n = (s.timebases[tb].run.map (·.period)).getD 0 := by
  subst htb
  unfold State.periodOf
  rw [h]
  cases hr : s.timebases[r.timebase].run <;> simp only [hr, Option.map_none, Option.map_some, Option.getD]

/-! ## Moves that keep the wiring -/

/-- The tables agree as before where the wiring is as before and each engine that served a binding serves it still. -/
theorem State.TablesAgree.of_sameWiring {s t : State} (h : s.TablesAgree) (hw : s.SameWiring t)
    (he : ∀ (n : LeaseNo) r r' (i : Nat) b b' (c : ChannelNo) (role : Role), s.leases[n] = some r →
      t.leases[n] = some r' → r.bindings[i]? = some b → r'.bindings[i]? = some b' →
      s.engines[c].Serves n r i b role (s.periodOf n) → t.engines[c].Serves n r' i b' role (t.periodOf n)) :
    t.TablesAgree := by
  obtain ⟨hserved, ⟨hchan, hpin⟩, hmatch⟩ := State.tablesAgree_iff.1 h
  have forth : ∀ {n : LeaseNo} {r}, s.leases[n] = some r → ∃ r', t.leases[n] = some r'
      ∧ ∀ (i : Nat) (b : Binding), r.bindings[i]? = some b → ∃ b' : Binding, r'.bindings[i]? = some b' ∧ b'.wiring = b.wiring :=
    fun {n r} hr => by
      obtain ⟨r', h1, -, h2⟩ := exists_of_wiring (hw.leases n).symm hr
      exact ⟨r', h1, h2⟩
  refine State.tablesAgree_iff.2 ⟨fun n r' hr' => ?_, ⟨fun c p hp => ?_, fun q o ho => ?_⟩, fun c => ?_⟩
  · obtain ⟨r, hr, -, hback⟩ := exists_of_wiring (hw.leases n) hr'
    refine State.bindingsServed_iff.2 ?_
    rintro i b' h ⟨hb', hh⟩
    obtain ⟨b, hb, hwire⟩ := hback i b' hb'
    obtain ⟨hhalves, hdrive⟩ := Prod.mk.inj hwire
    obtain ⟨h1, h2, h3⟩ := State.bindingsServed_iff.1 (hserved n r hr) i b h ⟨hb, hhalves ▸ hh⟩
    refine ⟨by rw [hw.channels, h1], he n r r' i b b' _ _ hr hr' hb hb' h2, ?_⟩
    rw [hw.owners, h3, hdrive]
  · rw [hw.channels] at hp
    obtain ⟨r, b, hr, hb, x, hx, h1, h2⟩ := hchan c p hp
    obtain ⟨r', hr', hforth⟩ := forth hr
    obtain ⟨b', hb', hwire⟩ := hforth _ _ hb
    exact ⟨r', b', hr', hb', x, (Prod.mk.inj hwire).1 ▸ hx, h1, h2⟩
  · rw [hw.owners] at ho
    obtain ⟨r, b, hr, hb, hd, x, hx, h1, h2⟩ := hpin q o ho
    obtain ⟨r', hr', hforth⟩ := forth hr
    obtain ⟨b', hb', hwire⟩ := hforth _ _ hb
    exact ⟨r', b', hr', hb', hd.trans (Prod.mk.inj hwire).2.symm, x, (Prod.mk.inj hwire).1 ▸ hx, h1, h2⟩
  · rw [hw.places, hw.channels, hmatch]

/-- Where each timebase keeps the period in force and the wiring is kept, so does each lease. -/
theorem State.SameWiring.periodOf {s t : State} (hw : s.SameWiring t)
    (hp : ∀ tb : TimebaseNo, t.timebases[tb].run.map (·.period) = s.timebases[tb].run.map (·.period)) (n : LeaseNo) :
    t.periodOf n = s.periodOf n := by
  have hl := hw.leases n
  cases hs : s.leases[n] with
  | none =>
    rw [hs] at hl
    have ht : t.leases[n] = none := by simpa [-Fin.getElem_fin, leaseWiring] using hl
    simp only [State.periodOf, hs, ht]
  | some r =>
    obtain ⟨r', hr', htb, -⟩ := exists_of_wiring hl.symm hs
    rw [State.periodOf_eq hs rfl, State.periodOf_eq hr' htb, hp]

theorem State.TablesAgree.of_sameTables {s t : State} (h : s.TablesAgree) (hs : s.SameTables t) : t.TablesAgree := by
  refine h.of_sameWiring hs.sameWiring fun n r r' i b b' c role hr hr' hb hb' hserve => ?_
  obtain rfl : r = r' := by simpa [hs.leases, hr] using hr'
  obtain rfl : b = b' := by simpa [hb] using hb'
  rw [hs.sameWiring.periodOf fun tb => by rw [hs.timebases]]
  exact hserve.of_bare (hs.engines c)

theorem State.TablesAgree.takeTrip {s : State} (h : s.TablesAgree) (reached : LeaseRecord → Bool) (cause : Source) :
    (s.takeTrip reached cause).TablesAgree := by
  have hw := s.sameWiring_takeTrip reached cause
  refine h.of_sameWiring hw fun n r r' i b b' c role hr hr' hb hb' hserve => ?_
  rw [hw.periodOf fun tb => by rw [State.timebases_takeTrip], Fin.getElem_fin, State.engines_takeTrip,
    ← Fin.getElem_fin, hserve.lease]
  simp only [Fin.getElem_fin, State.leases_takeTrip] at hr hr'
  simp only [Fin.getElem_fin, hr, Option.map_some, Option.some.injEq, reaches, Option.any_some] at hr' ⊢
  subst hr'
  split
  · rw [if_pos ‹_›] at hb'
    obtain rfl : b = b' := by simpa [LeaseRecord.trip, hb] using hb'
    exact hserve.trip cause
  · rw [if_neg ‹_›] at hb'
    obtain rfl : b = b' := by simpa [hb] using hb'
    exact hserve

@[simp] theorem Timebase.run_recount (t : Timebase) (old new : Nat) : (t.recount old new).run = t.run := rfl

/-- A new lease table leaves each timebase's run as it is. -/
theorem State.run_setLeases (s : State) (ls : Vector Lease 16) (tb : TimebaseNo) :
    (s.setLeases ls).timebases[tb].run = s.timebases[tb].run := by
  simp only [Fin.getElem_fin, State.timebases_setLeases, Timebase.run_recount]

/-- A change of one lease's engines and of its record, its bindings kept, keeps the agreement where it keeps the serving
of that lease. -/
theorem State.TablesAgree.put {s : State} (h : s.TablesAgree) {k : LeaseNo} {r : LeaseRecord} {phase : Phase}
    {f : Engine → Engine} (hf : ∀ e, (f e).place? = e.place?) (hr : s.leases[k] = some r)
    (hserve : ∀ (e : Engine) i b role period, e.Serves k r i b role period →
      (f e).Serves k { r with phase := phase } i b role period) :
    ((s.mapEngines fun n e => if n = k then f e else e).putLease k (some { r with phase := phase })).TablesAgree := by
  have hw := State.sameWiring_put (s := s) (f := fun n e => if n = k then f e else e)
    (fun n e => by split <;> simp [hf]) hr (r' := { r with phase := phase }) rfl
  refine h.of_sameWiring hw fun n x x' i b b' c role hx hx' hb hb' hs => ?_
  have hperiod := hw.periodOf (fun tb => by rw [State.putLease, State.run_setLeases]; rfl) n
  rw [hperiod, State.putLease_engines, Fin.getElem_fin, State.engines_mapEngines, ← Fin.getElem_fin, hs.lease]
  simp only [Fin.getElem_fin, State.leases_putLease, State.mapEngines_leases] at hx'
  by_cases hn : n = k
  · subst hn
    obtain rfl : r = x := by simpa [hr] using hx
    simp only [if_true, Option.some.injEq] at hx' ⊢
    subst hx'
    obtain rfl : b = b' := by simpa [hb] using hb'
    exact hserve _ _ _ _ _ hs
  · rw [if_neg (by simpa [Fin.ext_iff] using hn)] at hx'
    obtain rfl : x = x' := by simpa [← Fin.getElem_fin, hx] using hx'
    obtain rfl : b = b' := by simpa [hb] using hb'
    simpa [hn] using hs

/-- A lease given another record that its engines serve as before keeps the agreement. -/
theorem State.TablesAgree.putLease {s : State} (h : s.TablesAgree) {k : LeaseNo} {r r' : LeaseRecord}
    (hr : s.leases[k] = some r) (hb : r'.bindings = r.bindings) (htb : r'.timebase = r.timebase)
    (hp : r'.phase.showsSafe = r.phase.showsSafe) (hs : ∀ i, r'.stagedAt i = r.stagedAt i) :
    (s.putLease k (some r')).TablesAgree := by
  have hw := State.sameWiring_putLease (s := s) hr (r' := r') (by simp [leaseWiring, hb, htb])
  refine h.of_sameWiring hw fun n x x' i b b' c role hx hx' hbx hbx' hserve => ?_
  rw [hw.periodOf (fun tb => by rw [State.putLease, State.run_setLeases]) n, State.putLease_engines]
  simp only [Fin.getElem_fin, State.leases_putLease] at hx'
  by_cases hn : n = k
  · subst hn
    obtain rfl : r = x := by simpa [hr] using hx
    simp only [if_true, Option.some.injEq] at hx'
    subst hx'
    obtain rfl : b = b' := by simpa [hb, hbx] using hbx'
    exact hserve.of_same hp (hs i) rfl
  · rw [if_neg (by simpa [Fin.ext_iff] using hn)] at hx'
    obtain rfl : x = x' := by simpa [← Fin.getElem_fin, hx] using hx'
    obtain rfl : b = b' := by simpa [hbx] using hbx'
    exact hserve

/-- A timebase given another record with the same holder and the same period in force keeps the agreement. -/
theorem State.TablesAgree.setTimebase {s : State} (h : s.TablesAgree) {tb : TimebaseNo} {y : Timebase}
    (hh : y.holder? = s.timebases[tb].holder?)
    (hp : y.run.map (·.period) = s.timebases[tb].run.map (·.period)) : (s.setTimebase tb y).TablesAgree := by
  have hw := State.sameWiring_setTimebase (s := s) hh
  refine h.of_sameWiring hw fun n x x' i b b' c role hx hx' hb hb' hserve => ?_
  obtain rfl : x = x' := by simpa [-Fin.getElem_fin, hx] using hx'
  obtain rfl : b = b' := by simpa [hb] using hb'
  have hperiod : (s.setTimebase tb y).periodOf n = s.periodOf n := hw.periodOf (fun j => by
    simp only [Fin.getElem_fin, State.timebases_setTimebase]
    split
    · rename_i hj
      obtain rfl := Fin.ext hj
      exact hp
    · rfl) n
  rw [hperiod]
  exact hserve

/-- The period in force after a boundary of a lease's timebase is the coming one; every other keeps its own (R53). -/
theorem State.periodOf_moveBoundary {s : State} {tb : TimebaseNo} {x : TimebaseRun} {n : LeaseNo} {r : LeaseRecord}
    (hr : s.leases[n] = some r) :
    (s.moveBoundary tb x).periodOf n = if r.timebase = tb then x.coming else s.periodOf n := by
  have hr' : (s.moveBoundary tb x).leases[n] = some (if r.timebase = tb then r.atBoundary else r) := by
    simp only [Fin.getElem_fin] at hr
    simp [hr]
  have htb : (if r.timebase = tb then r.atBoundary else r).timebase = r.timebase := by
    split
    · have := leaseWiring_atBoundary r
      simp only [leaseWiring, Option.map_some, Option.some.injEq, Prod.mk.injEq] at this
      exact this.1
    · rfl
  rw [State.periodOf_eq hr' htb, State.periodOf_eq hr rfl, Fin.getElem_fin, State.timebases_moveBoundary]
  by_cases h : r.timebase = tb
  · subst h; simp [Timebase.atBoundary]
  · rw [if_neg (by simpa [Fin.ext_iff] using h), if_neg h, Timebase.run_recount]; rfl

theorem State.TablesAgree.moveBoundary {s : State} (h : s.TablesAgree) {tb : TimebaseNo} {x : TimebaseRun}
    (run : s.timebases[tb].run = some x) : (s.moveBoundary tb x).TablesAgree := by
  refine h.of_sameWiring (State.sameWiring_moveBoundary run) fun n r r' i b b' c role hr hr' hb hb' hserve => ?_
  rw [State.periodOf_moveBoundary hr, State.engines_moveBoundary, Fin.getElem_fin, State.engines_mapEngines,
    ← Fin.getElem_fin, hserve.lease]
  simp only [Fin.getElem_fin, State.leases_moveBoundary] at hr hr'
  simp only [boundaryEngine, Fin.getElem_fin, hr, Option.map_some, Option.some.injEq] at hr' ⊢
  subst hr'
  split
  · rw [if_pos ‹_›] at hb'
    exact hserve.atBoundary hb hb' x.coming
  · rw [if_neg ‹_›] at hb'
    obtain rfl : b = b' := by simpa [hb] using hb'
    exact hserve

/-! ## Teardown (R16) -/

theorem freeChannelIf_eq_some {w : LeaseNo → Bool} {c : Option Place} {p : Place} :
    freeChannelIf w c = some p ↔ c = some p ∧ w p.lease = false := by
  cases c with
  | none => simp [freeChannelIf]
  | some x =>
    simp only [freeChannelIf, Option.ite_none_left_eq_some, Option.some.injEq, Bool.not_eq_true]
    constructor
    · rintro ⟨h, rfl⟩; exact ⟨rfl, h⟩
    · rintro ⟨rfl, h⟩; exact ⟨h, rfl⟩

theorem PinEntry.owner_releaseIf (w : LeaseNo → Bool) (p : PinEntry) :
    (p.releaseIf w).owner = if p.owner.any (fun o => w o.place.lease) then none else p.owner := by
  unfold PinEntry.releaseIf
  split
  · simp [‹p.owner = none›]
  · simp only [‹p.owner = _›, Option.any_some]
    split <;> simp_all

theorem PinEntry.owner_releaseIf_eq_some {w : LeaseNo → Bool} {p : PinEntry} {o : PinOwner} :
    (p.releaseIf w).owner = some o ↔ p.owner = some o ∧ w o.place.lease = false := by
  rw [PinEntry.owner_releaseIf]
  cases h : p.owner with
  | none => simp
  | some x =>
    simp only [Option.any_some, Option.ite_none_left_eq_some, Option.some.injEq, Bool.not_eq_true]
    constructor
    · rintro ⟨h, rfl⟩; exact ⟨rfl, h⟩
    · rintro ⟨rfl, h⟩; exact ⟨h, rfl⟩

/-- A lease that is not freed keeps its period: its timebase is not left without bindings (R64, R65). -/
theorem State.period_freeLeases {s : State} (hc : s.CountsAgree) (hs : s.LeasesShaped) {w : LeaseNo → Bool}
    {n : LeaseNo} {r : LeaseRecord} (hn : w n = false) (hr : s.leases[n] = some r) :
    (s.freeLeases w).periodOf n = s.periodOf n := by
  have hr' : (freedLeases s.leases w)[n] = some r := by rw [getElem_freedLeases, hn]; exact hr
  have hshape : r.Shaped := leaseHas_iff.1 (hs n) r hr
  rw [State.periodOf_eq (s := s.freeLeases w) (r := r) (by rw [State.leases_freeLeases_eq]; exact hr') rfl,
    State.periodOf_eq hr rfl]
  rcases freed_bound_or s.leases w r.timebase with hnone | ⟨k, hw, hk⟩
  · rw [State.timebases_freeLeases_kept hnone]
  · rw [State.timebases_freeLeases_left hc hw hk]
    have hne := bindingsOn_ne_zero hr' rfl hshape
    cases hrun : s.timebases[r.timebase].run with
    | none => rw [Timebase.settle_idle (by rwa [Timebase.run_withCount]), Timebase.run_withCount, hrun]
    | some x =>
      rcases Timebase.settle_cases (ls := freedLeases s.leases w) (tb := r.timebase)
        ((Timebase.run_withCount s.timebases[r.timebase] (bindingsOn (freedLeases s.leases w) r.timebase)).trans hrun)
        (Timebase.refCount_withCount _ _) with ⟨h0, -⟩ | ⟨-, y, -, he⟩
      · exact absurd h0 hne
      · rw [he]; rfl

theorem State.TablesAgree.freeLeases {s : State} (h : s.TablesAgree) (hc : s.CountsAgree) (hs : s.LeasesShaped)
    (w : LeaseNo → Bool) : (s.freeLeases w).TablesAgree := by
  obtain ⟨hserved, ⟨hchan, hpin⟩, hmatch⟩ := State.tablesAgree_iff.1 h
  have kept : ∀ {n : LeaseNo} {r}, (s.freeLeases w).leases[n] = some r ↔ w n = false ∧ s.leases[n] = some r := by
    intro n r
    rw [State.leases_freeLeases_eq, getElem_freedLeases]
    cases w n <;> simp
  have hengine : ∀ c : ChannelNo, (s.freeLeases w).engines[c]
      = if (s.channels[c].map (·.lease)).any w then .unused else s.engines[c] := fun c => by
    rw [Fin.getElem_fin, State.engines_freeLeases, ← Fin.getElem_fin, Engine.lease?_eq, hmatch]
  have hchannel : ∀ c : ChannelNo, (s.freeLeases w).channels[c] = freeChannelIf w s.channels[c] := fun c => by
    simp only [Fin.getElem_fin, State.channels_freeLeases]
  refine State.tablesAgree_iff.2 ⟨fun n r hr => ?_, ⟨fun c p hp => ?_, fun q o ho => ?_⟩, fun c => ?_⟩
  · obtain ⟨hn, hr⟩ := kept.1 hr
    refine State.bindingsServed_iff.2 fun i b x hx => ?_
    obtain ⟨h1, h2, h3⟩ := State.bindingsServed_iff.1 (hserved n r hr) i b x hx
    rw [State.period_freeLeases hc hs hn hr, hengine, h1]
    refine ⟨?_, by simpa [hn] using h2, ?_⟩
    · rw [hchannel]
      exact freeChannelIf_eq_some.2 ⟨h1, hn⟩
    · rw [Fin.getElem_fin, State.pins_freeLeases]
      exact PinEntry.owner_releaseIf_eq_some.2 ⟨h3, hn⟩
  · rw [hchannel] at hp
    obtain ⟨hp, hn⟩ := freeChannelIf_eq_some.1 hp
    obtain ⟨r, b, hr, hrest⟩ := hchan c p hp
    exact ⟨r, b, kept.2 ⟨hn, hr⟩, hrest⟩
  · rw [Fin.getElem_fin, State.pins_freeLeases] at ho
    obtain ⟨ho, hn⟩ := PinEntry.owner_releaseIf_eq_some.1 ho
    obtain ⟨r, b, hr, hrest⟩ := hpin q o ho
    exact ⟨r, b, kept.2 ⟨hn, hr⟩, hrest⟩
  · rw [hengine, hchannel]
    have hm := hmatch c
    cases hch : s.channels[c] with
    | none => rw [hch] at hm; simpa [freeChannelIf, -Fin.getElem_fin] using hm
    | some p =>
      rw [hch] at hm
      cases hwp : w p.lease
      · simpa [freeChannelIf, hwp, -Fin.getElem_fin] using hm
      · simp [freeChannelIf, hwp, Engine.place?]

end Sys2Proof.Machine
end

section
/-! A claim through the tables (R35 to R39): the channels placed are free and pairwise apart, so the places its bindings
give to channels and pins are those of its halves and no other's. With it every move of the tables keeps them in
agreement. -/

namespace Sys2Proof.Machine

/-! ## Channels placed (R35, R36) -/

/-- The channels that a binding takes when it is placed: an aligned pair where it is complementary. -/
def takenChannels (complementary : Bool) (c : ChannelNo) : List ChannelNo :=
  if complementary then [c, oddPartner c] else [c]

theorem oddPartner_ne (c : ChannelNo) : oddPartner c ≠ c := by revert c; decide

/-- Channels placed for the bindings of `kinds` from index `i` on that are of one kind, each binding's apart from every
other's, taken from the channels `free`. -/
structure Places (complementary : Bool) (i : Nat) (kinds : List Bool) (free : List ChannelNo)
    (placed : List (Nat × ChannelNo)) : Prop where
  covers : ∀ j, kinds[j]? = some complementary → ∃ c, (i + j, c) ∈ placed
  kind : ∀ x ∈ placed, ∃ j, x.1 = i + j ∧ kinds[j]? = some complementary
  free : ∀ x ∈ placed, ∀ c ∈ takenChannels complementary x.2, c ∈ free
  apart : placed.Pairwise fun x y =>
    ∀ c ∈ takenChannels complementary x.2, c ∉ takenChannels complementary y.2

theorem places_nil (k : Bool) (i : Nat) (free : List ChannelNo) : Places k i [] free [] :=
  ⟨by simp, by simp, by simp, .nil⟩

/-- A binding of the other kind is passed over. -/
theorem Places.skip {k k' : Bool} {i : Nat} {kinds : List Bool} {free : List ChannelNo} {placed : List (Nat × ChannelNo)}
    (h : Places k (i + 1) kinds free placed) (hk : k' ≠ k) : Places k i (k' :: kinds) free placed := by
  refine ⟨fun j hj => ?_, fun x hx => ?_, h.free, h.apart⟩
  · cases j with
    | zero => exact absurd (by simpa using hj) hk
    | succ j =>
      obtain ⟨c, hc⟩ := h.covers j (by simpa using hj)
      exact ⟨c, by rwa [show i + (j + 1) = i + 1 + j by omega]⟩
  · obtain ⟨j, h1, h2⟩ := h.kind x hx
    exact ⟨j + 1, by omega, by simpa using h2⟩

/-- A binding of the kind takes channels that the later ones do not have to take from. -/
theorem Places.cons {k : Bool} {i : Nat} {kinds : List Bool} {free left : List ChannelNo}
    {placed : List (Nat × ChannelNo)} {c : ChannelNo} (h : Places k (i + 1) kinds left placed)
    (hc : ∀ d ∈ takenChannels k c, d ∈ free ∧ d ∉ left) (hl : ∀ d ∈ left, d ∈ free) :
    Places k i (k :: kinds) free ((i, c) :: placed) := by
  refine ⟨fun j hj => ?_, fun x hx => ?_, fun x hx d hd => ?_, ?_⟩
  · cases j with
    | zero => exact ⟨c, by simp⟩
    | succ j =>
      obtain ⟨d, hd⟩ := h.covers j (by simpa using hj)
      exact ⟨d, List.mem_cons_of_mem _ (by rwa [show i + (j + 1) = i + 1 + j by omega])⟩
  · rcases List.mem_cons.1 hx with rfl | hx
    · exact ⟨0, rfl, rfl⟩
    · obtain ⟨j, h1, h2⟩ := h.kind x hx
      exact ⟨j + 1, by omega, by simpa using h2⟩
  · rcases List.mem_cons.1 hx with rfl | hx
    · exact (hc d hd).1
    · exact hl d (h.free x hx d hd)
  · exact List.pairwise_cons.2 ⟨fun y hy d hd hd' => (hc d hd).2 (h.free y hy d hd'), h.apart⟩

/-- Pass 1 places each complementary binding on a pair, and leaves channels that no pair takes. -/
theorem placePairs_places {i : Nat} {kinds : List Bool} {free left : List ChannelNo} {placed : List (Nat × ChannelNo)}
    (h : placePairs i kinds free = .ok (placed, left)) :
    Places true i kinds free placed ∧ left.Sublist free
      ∧ ∀ x ∈ placed, ∀ c ∈ takenChannels true x.2, c ∉ left := by
  induction kinds generalizing i free placed with
  | nil =>
    simp only [placePairs, Except.ok.injEq, Prod.mk.injEq] at h
    obtain ⟨rfl, rfl⟩ := h
    exact ⟨places_nil _ _ _, .refl _, by simp⟩
  | cons k kinds ih =>
    cases k with
    | false =>
      obtain ⟨h1, h2, h3⟩ := ih (by simpa only [placePairs] using h)
      exact ⟨h1.skip (by simp), h2, h3⟩
    | true =>
      simp only [placePairs] at h
      split at h
      · cases h
      rename_i c hc
      split at h
      · cases h
      rename_i rest left' hrest
      simp only [Except.ok.injEq, Prod.mk.injEq] at h
      obtain ⟨rfl, rfl⟩ := h
      obtain ⟨h1, h2, h3⟩ := ih hrest
      have hpair := List.find?_some hc
      have hmem := List.mem_of_find?_eq_some hc
      simp only [Bool.and_eq_true, List.contains_iff_mem] at hpair
      have htaken : ∀ d ∈ takenChannels true c,
          d ∈ free ∧ d ∉ free.filter fun x => x != c && x != oddPartner c := by
        intro d hd
        simp only [takenChannels, if_true, List.mem_cons, List.not_mem_nil, or_false] at hd
        rcases hd with rfl | rfl
        · exact ⟨hmem, by simp⟩
        · exact ⟨hpair.2, by simp⟩
      refine ⟨h1.cons htaken fun d hd => (List.mem_filter.1 hd).1, h2.trans List.filter_sublist, fun x hx d hd => ?_⟩
      rcases List.mem_cons.1 hx with rfl | hx
      · exact fun hdl => (htaken d hd).2 (h2.subset hdl)
      · exact h3 x hx d hd

/-- Pass 2 places each single binding on a channel of its own. -/
theorem placeSingles_places {i : Nat} {kinds : List Bool} {free : List ChannelNo} {placed : List (Nat × ChannelNo)}
    (hn : free.Nodup) (h : placeSingles i kinds free = .ok placed) : Places false i kinds free placed := by
  induction kinds generalizing i free placed with
  | nil =>
    simp only [placeSingles, Except.ok.injEq] at h
    subst h
    exact places_nil _ _ _
  | cons k kinds ih =>
    cases k with
    | true => exact (ih hn (by simpa only [placeSingles] using h)).skip (by simp)
    | false =>
      cases free with
      | nil => simp [placeSingles] at h
      | cons c left =>
        simp only [placeSingles] at h
        split at h
        · cases h
        rename_i rest hrest
        simp only [Except.ok.injEq] at h
        subst h
        obtain ⟨hc, hleft⟩ := List.nodup_cons.1 hn
        refine (ih hleft hrest).cons (fun d hd => ?_) fun d hd => List.mem_cons_of_mem _ hd
        obtain rfl : d = c := by simpa [takenChannels] using hd
        exact ⟨by simp, hc⟩

theorem placedAt_mem {placed : List (Nat × ChannelNo)} {i : Nat} {c : ChannelNo} (h : (i, c) ∈ placed) :
    (i, placedAt placed i) ∈ placed := by
  unfold placedAt
  split
  · rename_i hnone
    simpa using List.find?_eq_none.1 hnone _ h
  · rename_i x hx
    obtain rfl : x.1 = i := by simpa using List.find?_some hx
    exact List.mem_of_find?_eq_some hx

/-- The channels of an allocation: each binding's are free, and no two bindings' meet (R35, R36). -/
theorem allocate_apart {map : Vector (Option Place) 12} {kinds : List Bool} {placed : List (Nat × ChannelNo)}
    (h : allocate map kinds = .ok placed) :
    (∀ i k, kinds[i]? = some k → ∀ c ∈ takenChannels k (placedAt placed i), map[c] = none)
      ∧ ∀ i j k k', kinds[i]? = some k → kinds[j]? = some k' → i ≠ j →
          ∀ c ∈ takenChannels k (placedAt placed i), c ∉ takenChannels k' (placedAt placed j) := by
  unfold allocate at h
  split at h
  · cases h
  rename_i pairs left hpairs
  split at h
  · cases h
  rename_i singles hsingles
  injection h with h
  subst h
  have hfree : ∀ c ∈ freeChannels map, map[c] = none := fun c hc => by
    simpa using (List.mem_filter.1 hc).2
  have hnodup : (freeChannels map).Nodup := (List.nodup_finRange 12).filter _
  obtain ⟨hP, hsub, hleft⟩ := placePairs_places hpairs
  have hS := placeSingles_places (hsub.nodup hnodup) hsingles
  have mem_pairs : ∀ i, kinds[i]? = some true → (i, placedAt (pairs ++ singles) i) ∈ pairs := fun i hi => by
    obtain ⟨c, hc⟩ := hP.covers i hi
    rw [Nat.zero_add] at hc
    rcases List.mem_append.1 (placedAt_mem (List.mem_append_left singles hc)) with h | h
    · exact h
    · obtain ⟨j, h1, h2⟩ := hS.kind _ h
      rw [Nat.zero_add] at h1
      simp [← h1, hi] at h2
  have mem_singles : ∀ i, kinds[i]? = some false → (i, placedAt (pairs ++ singles) i) ∈ singles := fun i hi => by
    obtain ⟨c, hc⟩ := hS.covers i hi
    rw [Nat.zero_add] at hc
    rcases List.mem_append.1 (placedAt_mem (List.mem_append_right pairs hc)) with h | h
    · obtain ⟨j, h1, h2⟩ := hP.kind _ h
      rw [Nat.zero_add] at h1
      simp [← h1, hi] at h2
    · exact h
  have symm_apart : ∀ k : Bool, Std.Symm fun x y : Nat × ChannelNo =>
      ∀ c ∈ takenChannels k x.2, c ∉ takenChannels k y.2 := fun k => ⟨fun x y hxy c hc hc' => hxy c hc' hc⟩
  refine ⟨fun i k hk c hc => ?_, fun i j k k' hk hk' hij c hc hc' => ?_⟩
  · cases k with
    | true => exact hfree c (hP.free _ (mem_pairs i hk) c hc)
    | false => exact hfree c (hsub.subset (hS.free _ (mem_singles i hk) c hc))
  · have hne : ∀ {a b : ChannelNo}, (i, a) ≠ (j, b) := by simp [hij]
    cases k <;> cases k'
    · have := symm_apart false
      exact hS.apart.forall (mem_singles i hk) (mem_singles j hk') hne c hc hc'
    · exact hleft _ (mem_pairs j hk') c hc' (hS.free _ (mem_singles i hk) c hc)
    · exact hleft _ (mem_pairs i hk) c hc (hS.free _ (mem_singles j hk') c hc')
    · have := symm_apart true
      exact hP.apart.forall (mem_pairs i hk) (mem_pairs j hk') hne c hc hc'

/-! ## The halves of bindings -/

/-- A list of bindings has a half: which binding, by index, and in which role. -/
def HasHalf (bs : List Binding) (i : Nat) (b : Binding) (h : Role × ChannelNo × PinNo) : Prop :=
  bs[i]? = some b ∧ h ∈ b.halves

theorem Binding.mem_halves {b : Binding} {h : Role × ChannelNo × PinNo} : h ∈ b.halves
    ↔ h = (.primary, b.channel, b.pin) ∨ ∃ k, b.complement = some k ∧ h = (.complement, k.channel, k.pin) := by
  cases hc : b.complement <;> simp [Binding.halves, hc]

/-- What a test picks of one binding, the primary half first. -/
def pickHalf (n : LeaseNo) (pick : Role × ChannelNo × PinNo → Bool) (x : Binding × Nat) : Option (Place × Binding) :=
  if pick (.primary, x.1.channel, x.1.pin) then some ({ lease := n, index := x.2, role := .primary }, x.1)
  else if x.1.complement.any fun k => pick (.complement, k.channel, k.pin) then
    some ({ lease := n, index := x.2, role := .complement }, x.1)
  else none

theorem placeOfChannel_eq (n : LeaseNo) (bs : List Binding) (c : ChannelNo) :
    placeOfChannel n bs c = bs.zipIdx.findSome? (pickHalf n fun h => h.2.1 == c) := rfl

theorem placeOfPin_eq (n : LeaseNo) (bs : List Binding) (p : PinNo) :
    placeOfPin n bs p = bs.zipIdx.findSome? (pickHalf n fun h => h.2.2 == p) := rfl

theorem pickHalf_eq_some {n : LeaseNo} {pick : Role × ChannelNo × PinNo → Bool} {x : Binding × Nat}
    {y : Place × Binding} (h : pickHalf n pick x = some y) :
    ∃ z ∈ x.1.halves, pick z = true ∧ y = ({ lease := n, index := x.2, role := z.1 }, x.1) := by
  unfold pickHalf at h
  split at h
  · injection h with h
    exact ⟨_, Binding.mem_halves.2 (.inl rfl), ‹_›, h.symm⟩
  · split at h
    · rename_i hk
      injection h with h
      obtain ⟨k, hk, hp⟩ := (Option.any_eq_true _ _).1 hk
      exact ⟨_, Binding.mem_halves.2 (.inr ⟨k, hk, rfl⟩), hp, h.symm⟩
    · cases h

theorem pickHalf_ne_none {n : LeaseNo} {pick : Role × ChannelNo × PinNo → Bool} {x : Binding × Nat}
    {z : Role × ChannelNo × PinNo} (hz : z ∈ x.1.halves) (hp : pick z = true) : pickHalf n pick x ≠ none := by
  unfold pickHalf
  rcases Binding.mem_halves.1 hz with rfl | ⟨k, hk, rfl⟩
  · simp [hp]
  · split <;> simp [hk, hp]

variable {n : LeaseNo} {bs : List Binding} {pick : Role × ChannelNo × PinNo → Bool}

/-- What is picked of a list of bindings is the place of a half that the test picks. -/
theorem findHalf_eq_some {y : Place × Binding} (h : bs.zipIdx.findSome? (pickHalf n pick) = some y) :
    ∃ i b z, HasHalf bs i b z ∧ pick z = true ∧ y = ({ lease := n, index := i, role := z.1 }, b) := by
  obtain ⟨x, hx, hy⟩ := List.exists_of_findSome?_eq_some h
  obtain ⟨z, hz, hp, rfl⟩ := pickHalf_eq_some hy
  exact ⟨x.2, x.1, z, ⟨mem_zipIdx_iff.1 hx, hz⟩, hp, rfl⟩

/-- A test that picks halves of one place alone picks that place. -/
theorem findHalf_unique (unique : ∀ {i b z i' b' z'}, HasHalf bs i b z → HasHalf bs i' b' z' → pick z = true →
      pick z' = true → i = i' ∧ z.1 = z'.1)
    {i : Nat} {b : Binding} {z : Role × ChannelNo × PinNo} (hz : HasHalf bs i b z) (hp : pick z = true) :
    bs.zipIdx.findSome? (pickHalf n pick) = some ({ lease := n, index := i, role := z.1 }, b) := by
  cases hf : bs.zipIdx.findSome? (pickHalf n pick) with
  | none =>
    exact absurd (List.findSome?_eq_none_iff.1 hf (b, i) (mem_zipIdx_iff.2 hz.1)) (pickHalf_ne_none hz.2 hp)
  | some y =>
    obtain ⟨i', b', z', hz', hp', rfl⟩ := findHalf_eq_some hf
    obtain ⟨rfl, hrole⟩ := unique hz hz' hp hp'
    obtain rfl : b = b' := by simpa [hz.1] using hz'.1
    rw [hrole]

/-! ## The bindings of an accepted claim -/

section claim

variable {s : State} {q : ClaimRequest} {k : LeaseNo} {g : Nat} {placed : List (Nat × ChannelNo)}

/-- A half of a claim's binding comes of a block, on a channel placed for it and a pin it names. -/
theorem ClaimRequest.hasHalf {i : Nat} {b : Binding} {z : Role × ChannelNo × PinNo}
    (h : HasHalf (q.bindings placed) i b z) : ∃ x : ClaimBlock, q.blocks[i]? = some x
      ∧ b = x.binding (placedAt placed i) ∧ z.2.2 ∈ x.pins
      ∧ z.2.1 ∈ takenChannels x.complementPin.isSome (placedAt placed i) := by
  obtain ⟨hb, hz⟩ := h
  rw [ClaimRequest.getElem?_bindings, Option.map_eq_some_iff] at hb
  obtain ⟨x, hx, rfl⟩ := hb
  refine ⟨x, hx, rfl, ?_⟩
  rcases Binding.mem_halves.1 hz with rfl | ⟨y, hy, rfl⟩
  · refine ⟨by simp [ClaimBlock.binding, ClaimBlock.pins], ?_⟩
    simp only [ClaimBlock.binding, takenChannels]
    split <;> simp
  · obtain ⟨p, hp, rfl⟩ := Option.map_eq_some_iff.1 hy
    simp [ClaimBlock.pins, takenChannels, hp]

theorem blockKinds_getElem? {i : Nat} {x : ClaimBlock} (h : q.blocks[i]? = some x) :
    (q.blocks.map fun b => b.complementPin.isSome)[i]? = some x.complementPin.isSome := by
  simp [h]

/-- The two halves of one binding of a claim are told apart by their channels, and by their pins (R27, R35). -/
theorem ClaimBlock.role_of_half {x : ClaimBlock} (hx : x.complementPin ≠ some x.pin) {c : ChannelNo}
    {z z' : Role × ChannelNo × PinNo} (hz : z ∈ (x.binding c).halves) (hz' : z' ∈ (x.binding c).halves)
    (h : z.2.1 = z'.2.1 ∨ z.2.2 = z'.2.2) : z.1 = z'.1 := by
  have hne := oddPartner_ne c
  rcases Binding.mem_halves.1 hz with rfl | ⟨y, hy, rfl⟩ <;>
    rcases Binding.mem_halves.1 hz' with rfl | ⟨y', hy', rfl⟩
  · rfl
  · obtain ⟨p, hp, rfl⟩ := Option.map_eq_some_iff.1 hy'
    rcases h with h | h
    · exact absurd h.symm hne
    · exact absurd (hp.trans (congrArg some h.symm)) hx
  · obtain ⟨p, hp, rfl⟩ := Option.map_eq_some_iff.1 hy
    rcases h with h | h
    · exact absurd h hne
    · exact absurd (hp.trans (congrArg some h)) hx
  · rfl

/-- Halves of a claim's bindings that share a channel or a pin are one half (R27, R35, R36). -/
theorem State.ClaimFits.half_unique (hf : s.ClaimFits q k g placed) {i i' : Nat} {b b' : Binding}
    {z z' : Role × ChannelNo × PinNo} (hz : HasHalf (q.bindings placed) i b z)
    (hz' : HasHalf (q.bindings placed) i' b' z') (h : z.2.1 = z'.2.1 ∨ z.2.2 = z'.2.2) : i = i' ∧ z.1 = z'.1 := by
  obtain ⟨ps, hsp⟩ := hf.spelled
  obtain ⟨x, hx, rfl, hpin, hchan⟩ := ClaimRequest.hasHalf hz
  obtain ⟨x', hx', rfl, hpin', hchan'⟩ := ClaimRequest.hasHalf hz'
  have hi : i = i' := by
    by_contra hne
    rcases h with h | h
    · exact (allocate_apart hf.channels).2 i i' _ _ (blockKinds_getElem? hx) (blockKinds_getElem? hx') hne _ hchan
        (h ▸ hchan')
    · rcases Nat.lt_or_gt_of_ne hne with hlt | hlt
      · exact (hsp.blocks i' x' hx').2 i x hlt hx _ hpin' (h ▸ hpin)
      · exact (hsp.blocks i x hx).2 i' x' hlt hx' _ hpin (h ▸ hpin')
  subst hi
  obtain rfl : x = x' := by simpa [hx] using hx'
  exact ⟨rfl, ClaimBlock.role_of_half (hsp.blocks i x hx).1.twoPins hz.2 hz'.2 h⟩

/-- A half of a claim's binding stands on a channel and a pin that were free (R29, R35). -/
theorem State.ClaimFits.half_free (hf : s.ClaimFits q k g placed) {i : Nat} {b : Binding}
    {z : Role × ChannelNo × PinNo} (hz : HasHalf (q.bindings placed) i b z) :
    s.channels[z.2.1] = none ∧ s.pins[z.2.2].owner = none := by
  obtain ⟨x, hx, rfl, hpin, hchan⟩ := ClaimRequest.hasHalf hz
  refine ⟨(allocate_apart hf.channels).1 i _ (blockKinds_getElem? hx) _ hchan, hf.pins _ ?_⟩
  exact List.mem_flatMap.2 ⟨x, List.mem_of_getElem? hx, hpin⟩

/-- The place that a claim gives to the channel of a half of its bindings is that half's. -/
theorem State.ClaimFits.placeOfChannel (hf : s.ClaimFits q k g placed) {i : Nat} {b : Binding}
    {z : Role × ChannelNo × PinNo} (hz : HasHalf (q.bindings placed) i b z) :
    placeOfChannel k (q.bindings placed) z.2.1 = some ({ lease := k, index := i, role := z.1 }, b) :=
  findHalf_unique (pick := fun h => h.2.1 == z.2.1)
    (fun h h' hp hp' => hf.half_unique h h' (.inl ((beq_iff_eq.1 hp).trans (beq_iff_eq.1 hp').symm))) hz (beq_self_eq_true _)

theorem State.ClaimFits.placeOfPin (hf : s.ClaimFits q k g placed) {i : Nat} {b : Binding}
    {z : Role × ChannelNo × PinNo} (hz : HasHalf (q.bindings placed) i b z) :
    placeOfPin k (q.bindings placed) z.2.2 = some ({ lease := k, index := i, role := z.1 }, b) :=
  findHalf_unique (pick := fun h => h.2.2 == z.2.2)
    (fun h h' hp hp' => hf.half_unique h h' (.inr ((beq_iff_eq.1 hp).trans (beq_iff_eq.1 hp').symm))) hz (beq_self_eq_true _)

/-- A channel is as before, held by none of the claim's bindings, or it was free and one half has it now. -/
theorem State.ClaimFits.channel_cases (hf : s.ClaimFits q k g placed) (c : ChannelNo) :
    Machine.placeOfChannel k (q.bindings placed) c = none
      ∨ ∃ i b z, HasHalf (q.bindings placed) i b z ∧ z.2.1 = c ∧ s.channels[c] = none
        ∧ Machine.placeOfChannel k (q.bindings placed) c = some ({ lease := k, index := i, role := z.1 }, b) := by
  cases hc : Machine.placeOfChannel k (q.bindings placed) c with
  | none => exact .inl rfl
  | some y =>
    obtain ⟨i, b, z, hz, hp, rfl⟩ := findHalf_eq_some (placeOfChannel_eq k _ c ▸ hc)
    obtain rfl := beq_iff_eq.1 hp
    exact .inr ⟨i, b, z, hz, rfl, (hf.half_free hz).1, rfl⟩

theorem State.ClaimFits.pin_cases (hf : s.ClaimFits q k g placed) (p : PinNo) :
    Machine.placeOfPin k (q.bindings placed) p = none
      ∨ ∃ i b z, HasHalf (q.bindings placed) i b z ∧ z.2.2 = p ∧ s.pins[p].owner = none
        ∧ Machine.placeOfPin k (q.bindings placed) p = some ({ lease := k, index := i, role := z.1 }, b) := by
  cases hc : Machine.placeOfPin k (q.bindings placed) p with
  | none => exact .inl rfl
  | some y =>
    obtain ⟨i, b, z, hz, hp, rfl⟩ := findHalf_eq_some (placeOfPin_eq k _ p ▸ hc)
    obtain rfl := beq_iff_eq.1 hp
    exact .inr ⟨i, b, z, hz, rfl, (hf.half_free hz).2, rfl⟩

end claim

/-! ## The tables after a claim -/

section performed

variable (s : State) (n : SessionNo) (q : ClaimRequest) (k : LeaseNo) (bs : List Binding)

theorem State.channels_performClaim (c : ChannelNo) :
    (s.performClaim n q k bs).channels[c] = (placeOfChannel k bs c).elim s.channels[c] fun x => some x.1 := by
  simp only [State.performClaim, State.setTimebase_channels, State.putLease_channels, mapTable_at]
  cases placeOfChannel k bs c <;> rfl

theorem State.engines_performClaim (c : ChannelNo) :
    (s.performClaim n q k bs).engines[c] = (placeOfChannel k bs c).elim s.engines[c] fun x =>
      .held { place := x.1, active := x.2.active, staged := none } := by
  simp only [State.performClaim, State.setTimebase_engines, State.putLease_engines, mapTable_at]
  cases placeOfChannel k bs c <;> rfl

theorem State.owner_performClaim (p : PinNo) :
    (s.performClaim n q k bs).pins[p].owner = (placeOfPin k bs p).elim s.pins[p].owner fun x =>
      some { place := x.1, drive := x.2.drive } := by
  simp only [State.performClaim, State.setTimebase_pins, State.putLease_pins, mapTable_at]
  cases placeOfPin k bs p <;> rfl

/-- A claim starts its own timebase where that was IDLE, and leaves every other run as it was (R39, R40). -/
theorem State.run_performClaim (tb : TimebaseNo) : (s.performClaim n q k bs).timebases[tb].run
    = if tb = q.timebase then
        some (s.timebases[tb].run.getD { period := q.period, staged := none, holder := k, startPending := true })
      else s.timebases[tb].run := by
  simp only [State.performClaim, Fin.getElem_fin, State.timebases_setTimebase, State.putLease]
  by_cases h : tb = q.timebase
  · subst h
    simp only [if_true, State.timebases_setLeases]
    cases hr : s.timebases[q.timebase.val].run <;> simp [Timebase.start, hr]
  · rw [if_neg (by simpa [Fin.ext_iff] using h), if_neg h, State.timebases_setLeases, Timebase.run_recount]

end performed

variable {s : State} {q : ClaimRequest} {k : LeaseNo} {g : Nat} {placed : List (Nat × ChannelNo)}

theorem State.holdersAgree_performClaim (hc : s.CountsAgree) (hh : s.HoldersAgree) (hf : s.ClaimFits q k g placed)
    (n : SessionNo) : (s.performClaim n q k (q.bindings placed)).HoldersAgree := by
  have hcounts := (State.TableMove.claimed n hf).countsAgree hc
  rw [State.holdersAgree_iff] at hh ⊢
  set t := s.performClaim n q k (q.bindings placed) with ht
  have hleases : ∀ j : LeaseNo, t.leases[j] = if j = k then some (q.record n (q.bindings placed)) else s.leases[j] := by
    intro j
    simp only [ht, Fin.getElem_fin, State.leases_performClaim, Fin.ext_iff]
  have hbound : ∀ (j : LeaseNo) tb, boundTo s.leases[j] tb = true → boundTo t.leases[j] tb = true := by
    intro j tb hj
    rw [hleases]
    split
    · rw [‹j = k›, hf.lease] at hj; cases hj
    · exact hj
  have hnew : t.leases[k] = some (q.record n (q.bindings placed)) := by rw [hleases, if_pos rfl]
  intro tb
  specialize hh tb
  have hrun := State.run_performClaim s n q k (q.bindings placed) tb
  rw [← ht] at hrun
  by_cases htb : tb = q.timebase
  · subst htb
    rw [if_pos rfl] at hrun
    rw [Timebase.holderAgrees_some hrun, hcounts.1]
    refine ⟨bindingsOn_ne_zero hnew rfl ?_, ?_⟩
    · exact (LeaseMove.claimed n hf).shaped trivial
    · cases hr : s.timebases[q.timebase].run with
      | none => rw [Option.getD_none]; exact boundTo_iff.2 ⟨_, hnew, rfl⟩
      | some x =>
        rw [Option.getD_some]
        exact hbound _ _ ((Timebase.holderAgrees_some hr).1 hh).2
  · rw [if_neg htb] at hrun
    have hcount : t.timebases[tb].refCount = s.timebases[tb].refCount := by
      rw [hcounts.1, hc.1]
      refine bindingsOn_congr fun j => ?_
      rw [hleases]
      split
      · rw [‹j = k›, hf.lease]
        simp only [leaseBindingsOn, ClaimRequest.record]
        exact if_neg (Ne.symm htb)
      · rfl
    cases hr : s.timebases[tb].run with
    | none =>
      rw [hr] at hrun
      rw [Timebase.holderAgrees_none hrun, hcount]
      exact (Timebase.holderAgrees_none hr).1 hh
    | some x =>
      rw [hr] at hrun
      obtain ⟨h1, h2⟩ := (Timebase.holderAgrees_some hr).1 hh
      rw [Timebase.holderAgrees_some hrun, hcount]
      exact ⟨h1, hbound _ _ h2⟩

/-- A lease that a claim finds keeps its period: its timebase runs already, with its bindings on it (R39, R48). -/
theorem State.period_performClaim (hc : s.CountsAgree) (hs : s.LeasesShaped) (hh : s.HoldersAgree)
    {j : LeaseNo} (hj : j ≠ k) {r : LeaseRecord} (hr : s.leases[j] = some r) (n : SessionNo) (bs : List Binding) :
    (s.performClaim n q k bs).periodOf j = s.periodOf j := by
  have hr' : (s.performClaim n q k bs).leases[j] = some r := by
    simp only [Fin.getElem_fin] at hr
    simp [Fin.val_ne_of_ne hj, hr]
  rw [State.periodOf_eq hr' rfl, State.periodOf_eq hr rfl, State.run_performClaim]
  split
  · cases hrun : s.timebases[r.timebase].run with
    | some x => rfl
    | none =>
      have h0 := (Timebase.holderAgrees_none hrun).1 (State.holdersAgree_iff.1 hh r.timebase)
      rw [hc.1] at h0
      exact absurd h0 (bindingsOn_ne_zero hr rfl (leaseHas_iff.1 (hs j) r hr))
  · rfl

theorem State.TablesAgree.performClaim (h : s.TablesAgree) (hc : s.CountsAgree) (hs : s.LeasesShaped)
    (hh : s.HoldersAgree) (hf : s.ClaimFits q k g placed) (n : SessionNo) :
    (s.performClaim n q k (q.bindings placed)).TablesAgree := by
  obtain ⟨hserved, ⟨hchan, hpin⟩, hmatch⟩ := State.tablesAgree_iff.1 h
  have hleases : ∀ j : LeaseNo, (s.performClaim n q k (q.bindings placed)).leases[j]
      = if j = k then some (q.record n (q.bindings placed)) else s.leases[j] := fun j => by
    simp only [Fin.getElem_fin, State.leases_performClaim, Fin.ext_iff]
  have other : ∀ {j : LeaseNo} {r}, s.leases[j] = some r → j ≠ k := fun hr hj => by
    rw [hj, hf.lease] at hr; cases hr
  refine State.tablesAgree_iff.2 ⟨fun j r hr => State.bindingsServed_iff.2 fun i b z hz => ?_,
    ⟨fun c p hp => ?_, fun p o ho => ?_⟩, fun c => ?_⟩
  · rw [hleases] at hr
    rw [State.channels_performClaim, State.engines_performClaim, State.owner_performClaim]
    split at hr
    · subst_vars
      injection hr with hr
      subst hr
      rw [hf.placeOfChannel hz, hf.placeOfPin hz]
      exact ⟨rfl, Engine.serves_iff.2 (.inl ⟨rfl, rfl⟩), rfl⟩
    · obtain ⟨h1, h2, h3⟩ := State.bindingsServed_iff.1 (hserved j r hr) i b z hz
      rcases hf.channel_cases z.2.1 with hn | ⟨_, _, _, _, _, hfree, _⟩
      swap
      · rw [h1] at hfree; cases hfree
      rcases hf.pin_cases z.2.2 with hp | ⟨_, _, _, _, _, hfree, _⟩
      swap
      · rw [h3] at hfree; cases hfree
      rw [hn, hp, State.period_performClaim hc hs hh ‹j ≠ k› hr]
      exact ⟨h1, h2, h3⟩
  · rw [State.channels_performClaim] at hp
    rcases hf.channel_cases c with hn | ⟨i, b, z, hz, hzc, -, hsome⟩
    · rw [hn] at hp
      obtain ⟨r, b, hr, hrest⟩ := hchan c p hp
      exact ⟨r, b, by rw [hleases, if_neg (other hr)]; exact hr, hrest⟩
    · rw [hsome] at hp
      injection hp with hp
      subst hp
      exact ⟨_, b, by rw [hleases, if_pos rfl], hz.1, z, hz.2, rfl, hzc⟩
  · rw [State.owner_performClaim] at ho
    rcases hf.pin_cases p with hn | ⟨i, b, z, hz, hzp, -, hsome⟩
    · rw [hn] at ho
      obtain ⟨r, b, hr, hrest⟩ := hpin p o ho
      exact ⟨r, b, by rw [hleases, if_neg (other hr)]; exact hr, hrest⟩
    · rw [hsome] at ho
      injection ho with ho
      subst ho
      exact ⟨_, b, by rw [hleases, if_pos rfl], hz.1, rfl, z, hz.2, rfl, hzp⟩
  · rw [State.channels_performClaim, State.engines_performClaim]
    cases Machine.placeOfChannel k (q.bindings placed) c with
    | none => exact hmatch c
    | some y => rfl

/-! ## Every move -/

theorem State.tablesAgree_fullReset (s : State) : s.fullReset.TablesAgree := by
  have hl : ∀ n : LeaseNo, s.fullReset.leases[n] = none := fun n => by simp [State.fullReset, State.reset]
  have hc : ∀ c : ChannelNo, s.fullReset.channels[c] = none := fun c => by simp [State.fullReset, State.reset]
  have hp : ∀ p : PinNo, s.fullReset.pins[p].owner = none := fun p => by
    simp [State.fullReset, State.reset, PinEntry.reset]
  have he : ∀ c : ChannelNo, s.fullReset.engines[c] = .unused := fun c => by simp [State.fullReset, State.reset]
  refine State.tablesAgree_iff.2 ⟨fun n r hr => ?_, ⟨fun c p h => ?_, fun p o h => ?_⟩, fun c => ?_⟩
  · rw [hl] at hr; cases hr
  · rw [hc] at h; cases h
  · rw [hp] at h; cases h
  · rw [he, hc]; rfl

theorem State.holdersAgree_fullReset (s : State) : s.fullReset.HoldersAgree :=
  State.holdersAgree_iff.2 fun tb => by
    simp [State.fullReset, State.reset, Timebase.reset, Timebase.HolderAgrees]

/-- The four rules of the tables that hold one another up (R2, R48, R86, R88, R94, R100). -/
structure State.TablesSound (s : State) : Prop where
  counts : s.CountsAgree
  shaped : s.LeasesShaped
  holders : s.HoldersAgree
  tables : s.TablesAgree

/-- The moves that keep the wiring, and so the holders. -/
theorem State.TablesSound.holders_of_sameWiring {s t : State} (h : s.TablesSound) (hw : s.SameWiring t)
    (hm : State.TableMove s t) : t.HoldersAgree :=
  h.holders.of_sameWiring hw h.counts (hm.countsAgree h.counts)

theorem State.TableMove.holdersAgree {s t : State} (hm : State.TableMove s t) (h : s.TablesSound) :
    t.HoldersAgree := by
  cases hm with
  | same hs => exact h.holders_of_sameWiring hs.sameWiring (.same hs)
  | reset => exact s.holdersAgree_fullReset
  | tripped reached cause => exact h.holders_of_sameWiring (s.sameWiring_takeTrip reached cause) (.tripped _ _ _)
  | freed which => exact State.holdersAgree_freeLeases h.counts h.holders which
  | claimed n hf => exact State.holdersAgree_performClaim h.counts h.holders hf n
  | amended hf =>
    refine h.holders_of_sameWiring (State.sameWiring_put (fun n e => ?_) hf.lease rfl) (.amended hf)
    split <;> simp
  | drained hr hp hstep =>
    refine h.holders_of_sameWiring (State.sameWiring_put (fun n e => ?_) hr rfl) (.drained hr hp hstep)
    split <;> simp
  | cleared hr before after =>
    exact h.holders_of_sameWiring (State.sameWiring_putLease hr rfl) (.cleared hr before after)
  | adopted n hr => exact h.holders_of_sameWiring (State.sameWiring_putLease hr rfl) (.adopted n hr)
  | counted run started above =>
    exact h.holders_of_sameWiring (State.sameWiring_setTimebase rfl) (.counted run started above)
  | retuned run range duties =>
    exact h.holders_of_sameWiring (State.sameWiring_setTimebase (by rw [Timebase.holder?, Timebase.holder?, run]; rfl))
      (.retuned run range duties)
  | boundary run due => exact h.holders_of_sameWiring (State.sameWiring_moveBoundary run) (.boundary run due)

theorem Phase.tripped_of_isTripped {p : Phase} (h : p.isTripped = true) : ∃ causes pending, p = .tripped causes pending := by
  cases p <;> simp_all [Phase.isTripped]

theorem State.TableMove.tablesAgree {s t : State} (hm : State.TableMove s t) (h : s.TablesSound) : t.TablesAgree := by
  cases hm with
  | same hs => exact h.tables.of_sameTables hs
  | reset => exact s.tablesAgree_fullReset
  | tripped reached cause => exact h.tables.takeTrip reached cause
  | freed which => exact h.tables.freeLeases h.counts h.shaped which
  | claimed n hf => exact h.tables.performClaim h.counts h.shaped h.holders hf n
  | amended hf =>
    exact h.tables.put (Engine.place?_stage _) hf.lease fun e i b role period hs => hs.stage hf.phase _
  | drained hr hp hstep =>
    exact h.tables.put Engine.place?_dropStage hr fun e i b role period hs => hs.drain hp _
  | cleared hr before after =>
    obtain ⟨c, p, hp⟩ := Phase.tripped_of_isTripped before
    refine h.tables.putLease hr rfl rfl ?_ fun i => ?_ <;>
      rcases after with rfl | ⟨c', p', rfl, -⟩ <;> simp [hp, Phase.showsSafe, LeaseRecord.stagedAt]
  | adopted n hr => exact h.tables.putLease hr rfl rfl rfl fun i => rfl
  | counted run started above => exact h.tables.setTimebase rfl rfl
  | retuned run range duties =>
    exact h.tables.setTimebase (by rw [Timebase.holder?, Timebase.holder?, run]; rfl) (by rw [run]; rfl)
  | boundary run due => exact h.tables.moveBoundary run

/-- Each move keeps the four rules together. -/
theorem State.TableMove.tablesSound {s t : State} (hm : State.TableMove s t) (h : s.TablesSound) : t.TablesSound :=
  ⟨hm.countsAgree h.counts, hm.leasesShaped h.shaped, hm.holdersAgree h, hm.tablesAgree h⟩

/-- Settles O58: the tables' agreement holds with the counts, shapes and period holders, which it rests on, at every move
of the tables, so at every step. -/
theorem stepsKeepTheTables : Obligations.StepsKeepTheTables := by
  unfold Obligations.StepsKeepTheTables
  intro s t hcounts hshaped hholders htables hstep
  exact (State.invariant_step (fun _ _ hm => hm.tablesSound) hstep ⟨hcounts, hshaped, hholders, htables⟩).tables

end Sys2Proof.Machine
end

section
/-! The full reset and its release (R23, R67, R85, R102, R122, R143, R166), and the rules of the part at reset. -/

namespace Sys2Proof.Machine

/-! ## A full reset -/

section tables

variable (s : State)

theorem State.lease_fullReset (k : LeaseNo) : s.fullReset.leases[k] = none := by simp [State.fullReset, State.reset]

theorem State.channel_fullReset (c : ChannelNo) : s.fullReset.channels[c] = none := by
  simp [State.fullReset, State.reset]

theorem State.timebase_fullReset (tb : TimebaseNo) : s.fullReset.timebases[tb] = Timebase.reset := by
  simp [State.fullReset, State.reset]

theorem State.engine_fullReset (c : ChannelNo) : s.fullReset.engines[c] = .unused := by
  simp [State.fullReset, State.reset]

theorem State.pin_fullReset (p : PinNo) : s.fullReset.pins[p] = PinEntry.reset := by
  simp [State.fullReset, State.reset]

theorem State.session_fullReset (n : SessionNo) : s.fullReset.sessions[n] = none := by
  simp [State.fullReset, State.reset]

theorem State.heldCount_fullReset (n : SessionNo) : s.fullReset.heldCount n = 0 := by
  unfold State.heldCount
  rw [List.length_eq_zero_iff, List.filter_eq_nil_iff]
  intro k _
  rw [State.lease_fullReset]
  simp [heldBy]

theorem State.carrier_fullReset (c : Carrier) : s.fullReset.carrier c = CarrierUnit.reset := by cases c <;> rfl

theorem State.input_fullReset (i : FaultLine) : s.fullReset.trip.input i = (s.trip.input i).inReset := by
  cases i <;> rfl

theorem State.link_fullReset (l : Link) : s.fullReset.link l = (s.link l).inReset := by cases l <;> rfl

/-- Every pin is released while the reset is held (R90, R95). -/
theorem State.pinDrive_fullReset (p : PinNo) : s.fullReset.pinDrive p = .released := by
  simp [State.pinDrive, State.fullReset]

end tables

/-- The cause of a full reset that is taken: a low pulse on RSTn of 1 us, power-on, or a supply below the power-on level
(R106, R172). -/
def resetTaken : ResetCause → Prop
  | .rstn lowNs => 1000 ≤ lowNs
  | .powerOn => True
  | .supply mv => mv < 2750

/-- What a cause leaves of the lines that the board drives: RSTn low, or the supply at its level (R106, R172). -/
def State.afterCause (s : State) : ResetCause → State
  | .rstn _ => { s with rstn := .low }
  | .powerOn => s
  | .supply mv => { s with supplyMv := mv }

/-- A full reset that is taken resets the part with the cause's line as the cause left it. -/
theorem exec_fullReset_taken {cause : ResetCause} (h : resetTaken cause) (s : State) :
    exec (.fullReset cause) s = .next (s.afterCause cause).fullReset := by
  cases cause with
  | rstn lowNs =>
    have hlow : ¬ lowNs < Config.rstnMinNs := Nat.not_lt.2 h
    simp only [exec, execFullReset, if_neg hlow, State.afterCause]
  | powerOn => rfl
  | supply mv =>
    have hmv : mv < Config.powerOnMv := h
    simp only [exec, execFullReset, if_pos hmv, State.afterCause]

/-- Settles O3, table by table. -/
theorem fullResetSetsEveryTable : Obligations.FullResetSetsEveryTable := by
  unfold Obligations.FullResetSetsEveryTable
  refine ⟨fun s cause hcause => ?_, fun s lowNs hlow => ?_⟩
  · have htaken : resetTaken cause := by cases cause <;> exact hcause
    refine ⟨_, exec_fullReset_taken htaken s, State.lease_fullReset _, State.channel_fullReset _,
      State.timebase_fullReset _, State.engine_fullReset _,
      fun p => ⟨State.pin_fullReset _ p, State.pinDrive_fullReset _ p⟩, State.carrier_fullReset _,
      fun n => ⟨State.session_fullReset _ n, State.heldCount_fullReset _ n⟩, fun i => ?_, rfl, rfl, rfl, rfl,
      fun l => ?_, rfl, rfl, ?_, ?_, ?_, ?_⟩
    · rw [State.input_fullReset]
      cases cause <;> exact ⟨rfl, rfl, rfl, rfl⟩
    · have hlink : (s.afterCause cause).link l = s.link l := by cases cause <;> cases l <;> rfl
      rw [State.link_fullReset, hlink]
      cases ht : (s.link l).transaction with
      | none => simp [LinkPort.inReset, LinkPort.reset, ht]
      | some x => cases x <;> simp [LinkPort.inReset, LinkPort.reset, ht, Transaction.abandoned]
    all_goals cases cause <;> rfl
  · have hlow : lowNs < Config.rstnMinNs := hlow
    simp only [exec, execFullReset, if_pos hlow]

/-! ## Reset -/

theorem State.session_reset (n : SessionNo) : State.reset.sessions[n] = none := by simp [State.reset]

theorem State.lease_reset (n : LeaseNo) : State.reset.leases[n] = none := by simp [State.reset]

theorem State.timebase_reset (tb : TimebaseNo) : State.reset.timebases[tb] = Timebase.reset := by simp [State.reset]

theorem State.pin_reset (p : PinNo) : State.reset.pins[p] = PinEntry.reset := by simp [State.reset]

theorem State.engine_reset (c : ChannelNo) : State.reset.engines[c] = .unused := by simp [State.reset]

theorem State.leaseHas_reset (p : LeaseRecord → Prop) (n : LeaseNo) : leaseHas State.reset.leases[n] p := by
  rw [State.lease_reset]; trivial

theorem State.link_reset (l : Link) : State.reset.link l = LinkPort.reset := by cases l <;> rfl

/-- No session is open at reset, so no notice is pending (R143). -/
theorem State.noticePending_reset (l : Link) : State.reset.noticePending l = false := by
  simp [State.noticePending, State.reset]

/-- The outputs are up to date at reset: every pin shows its rest level and both attention lines are inactive (R102,
R151, R166). -/
theorem State.settled_reset : State.reset.Settled := by
  have hatt : ∀ l, State.reset.attentionOf l = false := fun l => by
    rw [State.attentionOf, State.noticePending_reset, State.link_reset]; rfl
  have hlink : ∀ l, State.reset.refresh.link l = State.reset.link l := fun l => by
    rw [State.link_refresh, hatt, State.link_reset]; rfl
  have hengines : State.reset.refresh.engines = State.reset.engines := table_ext fun c => by
    rw [Fin.getElem_fin, State.engines_refresh, ← Fin.getElem_fin, State.engine_reset]; rfl
  have hpins : State.reset.refresh.pins = State.reset.pins := table_ext fun p => by
    rw [Fin.getElem_fin, State.pins_refresh, ← Fin.getElem_fin, State.pin_reset]; rfl
  exact State.ext (by simp) (by simp) (by simp) hengines hpins (by simp) (by simp) (by simp) (by simp) (by simp)
    (hlink .a) (hlink .b) (by simp) (by simp) (by simp) (by simp) (by simp)

/-- A state that is State.reset but for its link ports' attention lines is State.reset when brought up to date. -/
theorem State.fullReset_released {s : State} (h0 : s.trip.flt0.level = .high) (h1 : s.trip.flt1.level = .high)
    (hmv : s.supplyMv = 3300) (hA : s.linkA.transaction = none) (hB : s.linkB.transaction = none)
    (hfree : s.freeCount = 0) (hq : s.pending = []) :
    ({ s.fullReset with rstn := .high }).releaseReset = State.reset := by
  have hport : ∀ p : LinkPort, p.transaction = none → p.inReset = LinkPort.reset := fun p hp => by
    simp [LinkPort.inReset, LinkPort.reset, hp]
  have htrip : ({ s.fullReset with rstn := .high } : State).releaseReset.trip = TripUnit.seeded .high .high := by
    simp [State.releaseReset, State.fullReset, FaultInput.inReset, h0, h1, TripUnit.seeded]
  exact State.ext rfl rfl rfl rfl rfl rfl rfl htrip hmv rfl (hport _ hA) (hport _ hB) rfl rfl rfl hfree hq

/-- Settles O2: the release of the reset leaves the very fields of State.reset, whose outputs are up to date. -/
theorem resetIsWhatAReleaseLeaves : Obligations.ResetIsWhatAReleaseLeaves := by
  unfold Obligations.ResetIsWhatAReleaseLeaves
  intro s h0 h1 hmv hA hB hfree hq
  refine ⟨s.fullReset, rfl, ?_⟩
  have hsupply : Config.powerOnMv < s.fullReset.supplyMv := by
    have : s.fullReset.supplyMv = 3300 := hmv
    rw [this]; decide
  have hheld : s.fullReset.resetHeld = true := rfl
  simp only [exec, execResetRelease, if_pos hheld, if_pos hsupply]
  rw [State.fullReset_released h0 h1 hmv hA hB hfree hq]
  exact congrArg _ State.settled_reset

/-! ## The rules at reset -/

theorem State.countsAgree_reset : State.reset.CountsAgree :=
  ⟨fun tb => by rw [State.timebase_reset]; exact (bindingsOn_none tb).symm,
    fun c => by cases c <;> exact (carrierUses_none _).symm⟩

theorem State.holdersAgree_reset : State.reset.HoldersAgree :=
  State.holdersAgree_iff.2 fun tb => by rw [State.timebase_reset]; rfl

theorem State.timebasesInRange_reset : State.reset.TimebasesInRange := fun tb => by rw [State.timebase_reset]; rfl

theorem State.isSupervisor_reset (n : SessionNo) : State.reset.isSupervisor n = false := by
  rw [State.isSupervisor, State.session_reset]; rfl

theorem State.holdingsAgree_reset : State.reset.HoldingsAgree :=
  ⟨State.leaseHas_reset _, fun n r hr => by rw [State.session_reset] at hr; cases hr⟩

theorem State.tablesAgree_reset : State.reset.TablesAgree := by
  refine ⟨fun n => State.leaseHas_reset _ n, ⟨fun c p hp => ?_, fun p o ho => ?_⟩, fun c => ?_⟩
  · simp [State.reset] at hp
  · rw [State.pin_reset] at ho; cases ho
  · rw [State.engine_reset]; simp [State.reset, Engine.place?]

theorem State.showsByRules_reset : State.reset.ShowsByRules where
  rest p _ := by rw [State.pin_reset]; rfl
  leased := State.leaseHas_reset _
  engines c u e o h := by rw [State.engine_reset] at h; cases h
  attention l := by
    rw [State.link_reset]
    constructor
    · intro h; cases h
    · rintro ⟨-, ⟨resp, h⟩ | ⟨n, r, k, hr, -⟩⟩
      · cases h
      · rw [State.session_reset] at hr; cases hr

/-- Settles O51: at reset no lease, session or binding is there to break a rule, and the outputs are up to date. -/
theorem rulesHoldAtReset : Obligations.RulesHoldAtReset := by
  unfold Obligations.RulesHoldAtReset
  refine ⟨State.countsAgree_reset, State.leaseHas_reset _, State.holdersAgree_reset, State.timebasesInRange_reset,
    State.leaseHas_reset _, ⟨State.leaseHas_reset _, fun _ => State.lease_reset⟩, fun n hn => ?_,
    State.holdingsAgree_reset, State.tablesAgree_reset, State.leaseHas_reset _, State.leaseHas_reset _,
    State.settled_reset, State.showsByRules_reset, fun h => ?_⟩
  · rw [State.isSupervisor_reset] at hn; cases hn
  · cases h

end Sys2Proof.Machine
end

section
/-! Teardown as the manual gives it (R16, R64, R65), and the happenings that tear leases down: CLOSE SESSION, a hold expiry
and a RETIRE that frees at once. -/

namespace Sys2Proof.Machine

/-! ## Teardown -/

theorem freeChannelIf_eq (w : LeaseNo → Bool) (c : Option Place) :
    freeChannelIf w c = if c.any (fun p => w p.lease) then none else c := by
  cases c <;> rfl

theorem PinEntry.rest_releaseIf (w : LeaseNo → Bool) (p : PinEntry) : (p.releaseIf w).rest = p.rest := by
  unfold PinEntry.releaseIf
  split
  · rfl
  · split <;> rfl

@[simp] theorem CarrierUnit.divider_recount (u : CarrierUnit) (old new : Nat) : (u.recount old new).divider = u.divider := rfl

@[simp] theorem CarrierUnit.high_recount (u : CarrierUnit) (old new : Nat) : (u.recount old new).high = u.high := rfl

/-- A teardown leaves of each engine what R16 says. -/
theorem State.bare_freeLeases (s : State) (w : LeaseNo → Bool) (c : ChannelNo) : (s.freeLeases w).engines[c].bare
    = if s.engines[c].place?.any (fun p => w p.lease) then .unused else s.engines[c].bare := by
  have hany : s.engines[c].lease?.any w = s.engines[c].place?.any (fun p => w p.lease) := by
    rw [Engine.lease?_eq]
    cases s.engines[c].place? <;> rfl
  rw [Fin.getElem_fin, State.engines_freeLeases, ← Fin.getElem_fin, hany]
  split <;> rfl

theorem State.wavesKept_setLeases (s : State) (ls : Vector Lease 16) : s.WavesKept (s.setLeases ls) := fun c => by
  simp [State.carrier_setLeases]

/-- A running timebase that a freed lease was bound to goes IDLE with no binding left, and else keeps all but its count
and, by succession, its holder (R64, R65). -/
theorem State.timebases_left_cases {s : State} {w : LeaseNo → Bool} {tb : TimebaseNo} {x : TimebaseRun} {k : LeaseNo}
    (hs : s.CountsAgree) (hx : s.timebases[tb].run = some x) (hw : w k = true)
    (hk : boundTo s.leases[k] tb = true) :
    (bindingsOn (freedLeases s.leases w) tb = 0 ∧ (s.freeLeases w).timebases[tb]
      = { prescale := s.timebases[tb].prescale, counter := 0, refCount := 0, run := none })
    ∨ (bindingsOn (freedLeases s.leases w) tb ≠ 0 ∧ ∃ h, IsHolderAfter (freedLeases s.leases w) tb x.holder h
      ∧ (s.freeLeases w).timebases[tb]
        = { prescale := s.timebases[tb].prescale, counter := s.timebases[tb].counter,
            refCount := bindingsOn (freedLeases s.leases w) tb, run := some { x with holder := h } }) := by
  have hrun := (Timebase.run_withCount s.timebases[tb] (bindingsOn (freedLeases s.leases w) tb)).trans hx
  rw [State.timebases_freeLeases_left hs hw hk]
  rcases Timebase.settle_cases hrun (Timebase.refCount_withCount _ _) with ⟨hz, heq⟩ | ⟨hz, y, hy, heq⟩
  · rw [Timebase.refCount_withCount] at hz
    exact .inl ⟨hz, by rw [heq, Timebase.withCount, hz]⟩
  · exact .inr ⟨hz, y, hy, by rw [heq, Timebase.withCount]⟩

/-- A state with the tables that the teardown of some leases leaves, once brought up to date, has torn them down. -/
theorem State.tornDown_refresh {s u : State} {w : LeaseNo → Bool} (hs : s.CountsAgree)
    (hl : u.leases = (s.freeLeases w).leases) (hc : u.channels = (s.freeLeases w).channels)
    (ht : u.timebases = (s.freeLeases w).timebases) (he : u.engines = (s.freeLeases w).engines)
    (hp : u.pins = (s.freeLeases w).pins) (hA : u.carrierA = (s.freeLeases w).carrierA)
    (hB : u.carrierB = (s.freeLeases w).carrierB) : s.TornDown u.refresh w := by
  have hcarrier : ∀ c, u.refresh.carrier c = (s.freeLeases w).carrier c := fun c => by
    cases c <;> simp [State.carrier, hA, hB]
  have hleases : u.refresh.leases = freedLeases s.leases w := by
    rw [State.refresh_leases, hl, State.leases_freeLeases_eq]
  have hcounts := State.countsAgree_freeLeases hs w
  refine ⟨fun k => ?_, fun c => ?_, fun c => ?_, fun p => ⟨?_, ?_⟩, fun c => ?_, fun c => ?_, fun tb h => ?_,
    fun tb x k hx hw hk h0 => ?_, fun tb x k hx hw hk h0 => ?_⟩
  · rw [hleases, getElem_freedLeases]
  · rw [State.refresh_channels, hc, Fin.getElem_fin, State.channels_freeLeases, freeChannelIf_eq, ← Fin.getElem_fin]
  · rw [Fin.getElem_fin, State.engines_refresh, State.bare_engineNow, he, ← Fin.getElem_fin, State.bare_freeLeases]
  · simp only [Fin.getElem_fin, State.pins_refresh, hp, State.pins_freeLeases, PinEntry.rest_releaseIf]
  · simp only [Fin.getElem_fin, State.pins_refresh, hp, State.pins_freeLeases, PinEntry.owner_releaseIf]
  · rw [hcarrier, State.carrier_freeLeases, CarrierUnit.divider_recount, CarrierUnit.high_recount]
    exact ⟨rfl, rfl⟩
  · rw [hcarrier, hleases, hcounts.2, State.leases_freeLeases_eq]
  · rw [State.refresh_timebases, ht, State.timebases_freeLeases_kept h]
  all_goals rw [hleases] at h0
  · rw [State.refresh_timebases, ht]
    rcases State.timebases_left_cases hs hx hw hk with ⟨-, h⟩ | ⟨hz, -⟩
    · exact h
    · exact absurd h0 hz
  · rw [State.refresh_timebases, ht, hleases]
    rcases State.timebases_left_cases hs hx hw hk with ⟨hz, -⟩ | ⟨-, h⟩
    · exact absurd hz h0
    · exact h

/-- A teardown from a renewed state is one from the state before the renewal, which changed a session alone. -/
theorem State.TornDown.of_renewed {s t : State} {n : SessionNo} {w : LeaseNo → Bool}
    (h : (s.renewed n).TornDown t w) : s.TornDown t w :=
  ⟨h.leases, h.channels, h.engines, h.pins, h.waves, h.uses, h.kept, h.idle, h.succession⟩

/-- A served command that its own checks accept, as the happening of its row (R162, R164). -/
theorem State.happen_served {s t : State} {c : Command} {l : Link} {ps : List Byte} {n : SessionNo} {r : SessionRecord}
    {perform : State → SessionNo → List Byte → Performed} {resp : Response} (h : s.Serves c l ps n r)
    (hp : perform (s.renewed n) n ps = .ok (t, resp)) :
    s.happen (fun s => s.takeSession c perform) = .next (t.place l resp).refresh := by
  rw [State.happen_free _ h.notHeld, State.takeSession_ok h hp]

theorem State.CountsAgree.renewed {s : State} (h : s.CountsAgree) (n : SessionNo) : (s.renewed n).CountsAgree := h

/-! ## Closing a session (R134, R135) -/

/-- A session closed: its leases torn down, its record FREE, every other session kept. -/
theorem State.sessions_closed {s : State} {n : SessionNo} {u t : State}
    (hu : ∀ j, j ≠ n → u.sessions[j] = s.sessions[j]) (ht : t.sessions = (u.closeSession n).sessions) :
    t.sessions[n] = none ∧ s.OtherSessionsKept t n := by
  refine ⟨by simp [ht], fun j hj => ?_⟩
  rw [← hu j hj]
  simp [ht, Fin.val_ne_of_ne hj]

/-- Settles O14: the closing of the session on the renewed tables is the teardown of the leases it holds. -/
theorem closeSessionTearsDownItsLeases : Obligations.CloseSessionTearsDownItsLeases := by
  unfold Obligations.CloseSessionTearsDownItsLeases
  intro s l ps n r h hcounts
  have hperform : performCloseSession (s.renewed n) n ps
      = .ok ((s.renewed n).closeSession n, goodResponse [byte n.val, byte (s.heldCount n)]) := rfl
  refine ⟨_, State.happen_served h hperform, ?_, ?_, ?_, ?_, ?_,
    State.settled_refresh _⟩
  · exact State.answered_of_kept l _ (by simp) (by simp) (by simp) (by simp) (by simp) (by simp)
  · exact (State.tornDown_refresh (hcounts.renewed n) (by simp [State.closeSession]) (by simp [State.closeSession])
      (by simp [State.closeSession]) (by simp [State.closeSession]) (by simp [State.closeSession])
      (by simp [State.closeSession]) (by simp [State.closeSession])).of_renewed
  · exact (State.sessions_closed (fun j hj => (State.renews_renewed h rfl).2 j hj) (by simp)).1
  · exact (State.sessions_closed (fun j hj => (State.renews_renewed h rfl).2 j hj) (by simp)).2
  · constructor <;> simp

/-- Settles O21: the hold has run out, so the happening closes the session. -/
theorem holdExpiryClosesTheSession : Obligations.HoldExpiryClosesTheSession := by
  unfold Obligations.HoldExpiryClosesTheSession
  intro s n r x hheld hr hstatus hx hcounts
  have hdue : s.expiryDue n = true := by simp [State.expiryDue, hr, hstatus, hx, -Fin.getElem_fin]
  have hexec : exec (.holdExpiry n) s = .next (s.closeSession n).refresh := by
    rw [exec, execHoldExpiry, State.happen_free _ hheld, if_pos hdue]
  refine ⟨_, hexec, ?_, ?_, ?_, ?_, ?_, by simp [hheld], State.settled_refresh _⟩
  · exact State.tornDown_refresh hcounts (by simp [State.closeSession]) (by simp [State.closeSession])
      (by simp [State.closeSession]) (by simp [State.closeSession]) (by simp [State.closeSession])
      (by simp [State.closeSession]) (by simp [State.closeSession])
  · exact (State.sessions_closed (u := s) (fun j _ => rfl) (by simp)).1
  · exact (State.sessions_closed (u := s) (fun j _ => rfl) (by simp)).2
  · constructor <;> simp
  · exact State.linksKept_of_kept (by simp) (by simp) (by simp) (by simp) (by simp) (by simp)

/-! ## RETIRE (R77 to R80) -/

theorem readLease_ok {ps : List Byte} {k : LeaseNo} (h : arg ps 1 = k.val) : readLease ps = .ok k := by
  rw [readLease, h, indexOf_val, need_some]

theorem heldBy_iff {l : Lease} {n : SessionNo} : heldBy l n = true ↔ ∃ r, l = some r ∧ r.holder = n := by
  cases l <;> simp [heldBy]

/-- The holder of a lease has authority over it, and the supervisor where the command gives it (R13). -/
theorem State.checkHolder_ok {s : State} {n : SessionNo} {k : LeaseNo} {may : Bool}
    (h : heldBy s.leases[k] n = true ∨ (may = true ∧ s.isSupervisor n = true)) : s.checkHolder n k may = .ok () := by
  rw [State.checkHolder, check_eq_ok]
  simpa [-Fin.getElem_fin] using h

theorem checkPhase_ok {l : Lease} {accepts : Phase → Bool} {r : LeaseRecord} (hl : l = some r)
    (h : accepts r.phase = true) : checkPhase l accepts = .ok r := checkPhase_eq_ok.2 ⟨hl, h⟩

/-- The answer to a RETIRE reports the lease's state and plan as it leaves them (R171). -/
def retireAnswer (k : LeaseNo) (l : Lease) : Response := goodResponse ([byte k.val, leaseCode l] ++ planBytes l)

/-- A RETIRE that passes its checks, by the holder or the supervisor, retires the lease (R12, R13, R77, R78). -/
theorem performRetire_ok {s : State} {l : Link} {ps : List Byte} {n : SessionNo} {r : SessionRecord} {k : LeaseNo}
    {x : LeaseRecord} {m : RetireMode} (h : s.Serves .retire l ps n r) (hk : arg ps 1 = k.val)
    (hx : s.leases[k] = some x) (hauth : x.holder = n ∨ r.cls = .supervisor)
    (hm : readRetireMode (arg ps 2) (arg ps 3) = some m) (hphase : m.accepts x.phase = true) :
    performRetire (s.renewed n) n ps = .ok ((s.renewed n).retireLease k x m,
      retireAnswer k ((s.renewed n).retireLease k x m).leases[k]) := by
  have hholder : (s.renewed n).checkHolder n k true = .ok () := by
    refine State.checkHolder_ok (hauth.imp (fun hn => heldBy_iff.2 ⟨x, hx, hn⟩) fun hc => ⟨rfl, ?_⟩)
    rw [State.isSupervisor_renewed h.record]
    exact (State.isSupervisor_iff h.record).2 hc
  have hx' : (s.renewed n).leases[k] = some x := hx
  simp only [performRetire, readLease_ok hk, hholder, hm, need_some, checkPhase_ok hx' hphase, bind, Except.bind]
  rfl

theorem RetireMode.accepts_of_not_draining {m : RetireMode} {p : Phase} (h : ∀ plan, p ≠ .draining plan) :
    m.accepts p = true := by
  cases p with
  | draining plan => exact absurd rfl (h plan)
  | _ => rfl

/-- The modes and states in which a RETIRE frees the lease at once: it is accepted and drains nothing (R78, R79). -/
theorem retire_frees {ps : List Byte} {x : LeaseRecord} (h : arg ps 2 = 0 ∨ ((arg ps 2 = 1 ∨ (arg ps 2 = 2 ∧ arg ps 3 ≠ 0))
      ∧ (x.phase = .armed ∨ ∃ causes p, x.phase = .tripped causes p))) :
    ∃ m, readRetireMode (arg ps 2) (arg ps 3) = some m ∧ m.accepts x.phase = true ∧ m.plan x.phase = none := by
  rcases h with h0 | ⟨hmode, hphase⟩
  · exact ⟨.immediate, by simp [readRetireMode, h0], by cases x.phase <;> rfl, rfl⟩
  · have hacc : ∀ m : RetireMode, m.accepts x.phase = true ∧ m.plan x.phase = none := by
      rcases hphase with hp | ⟨causes, p, hp⟩ <;> rw [hp] <;> intro m <;> cases m <;> exact ⟨rfl, rfl⟩
    rcases hmode with h1 | ⟨h2, h3⟩
    · exact ⟨.atBoundary, by simp [readRetireMode, h1], hacc _⟩
    · exact ⟨.ramp (arg ps 3), by simp [readRetireMode, h2, h3], hacc _⟩

/-- Settles O27: the RETIRE is accepted and its mode plans no drain, so the lease is torn down. -/
theorem retireFreesAtOnce : Obligations.RetireFreesAtOnce := by
  unfold Obligations.RetireFreesAtOnce
  intro s l ps n r k x h hcounts hk hx hauth hfrees
  obtain ⟨m, hm, hacc, hplan⟩ := retire_frees hfrees
  have hretire : (s.renewed n).retireLease k x m = (s.renewed n).teardown k := by rw [State.retireLease, hplan]
  have hfree : ((s.renewed n).teardown k).leases[k] = none := by
    rw [State.teardown, Fin.getElem_fin, State.leases_freeLeases]
    simp
  have hperform := performRetire_ok h hk hx hauth hm hacc
  rw [hretire, hfree] at hperform
  refine ⟨_, State.happen_served h hperform, ?_, ?_, ?_,
    State.settled_refresh _, ?_⟩
  · exact (State.tornDown_refresh (hcounts.renewed n) (by simp [State.teardown]) (by simp [State.teardown])
      (by simp [State.teardown]) (by simp [State.teardown]) (by simp [State.teardown])
      (by simp [State.teardown]) (by simp [State.teardown])).of_renewed
  · exact State.renews_renewed h (by simp)
  · constructor <;> simp
  · exact State.answered_of_kept l _ (by simp) (by simp) (by simp) (by simp) (by simp) (by simp)

end Sys2Proof.Machine
end

section
/-! The start of a drain (R11, R80): a staged change goes, the pins keep generating what they generate, and nothing else of
the part moves. -/

namespace Sys2Proof.Machine

/-! ## What the pins show of an engine -/

/-- What a generating engine shows of itself: its active settings and its output. -/
def Engine.shown : Engine → Option (Settings × EngineOutput)
  | .unused => none
  | .held _ => none
  | .generating u _ o => some (u.active, o)

/-- What the pins show of a lease record: its bindings, and whether they show their safe levels. -/
def leaseShown (l : Lease) : Option (List Binding × Bool) := l.map fun r => (r.bindings, r.phase.showsSafe)

/-- The level of a pin depends on what the leases and the engines show (R95). -/
theorem State.levelOf_of_shown {s t : State} (hl : ∀ n : LeaseNo, leaseShown t.leases[n] = leaseShown s.leases[n])
    (he : ∀ c : ChannelNo, t.engines[c].shown = s.engines[c].shown) (p : PinEntry) : t.levelOf p = s.levelOf p := by
  unfold State.levelOf
  cases p.owner with
  | none => rfl
  | some o =>
    have hlease := hl o.place.lease
    dsimp only
    cases hs : s.leases[o.place.lease] with
    | none =>
      have ht : t.leases[o.place.lease] = none := by simpa [hs, leaseShown, -Fin.getElem_fin] using hlease
      rw [ht]
    | some r =>
      obtain ⟨r', ht, hb, hsafe⟩ : ∃ r', t.leases[o.place.lease] = some r' ∧ r'.bindings = r.bindings
          ∧ r'.phase.showsSafe = r.phase.showsSafe := by
        simpa [hs, leaseShown, -Fin.getElem_fin] using hlease
      rw [ht]
      dsimp only
      rw [hb, hsafe]
      cases hbind : r.bindings[o.place.index]? with
      | none => rfl
      | some b =>
        dsimp only
        have hengine := he (b.channelFor o.place.role)
        split
        · rfl
        · revert hengine
          cases t.engines[b.channelFor o.place.role] <;> cases s.engines[b.channelFor o.place.role] <;>
            simp [Engine.shown]
          intro hactive hout
          rw [hactive, hout]

/-- Engines that generate the same show the same once they are brought up to date. -/
theorem State.pins_refresh_of_shown {s t : State} (hs : s.Settled) (hp : t.pins = s.pins)
    (hl : ∀ n : LeaseNo, leaseShown t.leases[n] = leaseShown s.leases[n])
    (he : ∀ c : ChannelNo, (t.engineNow t.engines[c]).shown = (s.engineNow s.engines[c]).shown) :
    t.refresh.pins = s.pins := by
  refine table_ext fun p => ?_
  have hlevel : t.refreshEngines.levelOf t.pins[p.val] = s.refreshEngines.levelOf s.pins[p.val] := by
    rw [hp]
    refine State.levelOf_of_shown (fun n => ?_) (fun c => ?_) _
    · rw [State.leases_refreshEngines, State.leases_refreshEngines, hl]
    · simpa [State.refreshEngines] using he c
  rw [Fin.getElem_fin, State.pins_refresh, hlevel, hp]
  exact State.levelOf_settled hs p.val p.isLt

/-! ## The drain -/

section drain

variable {s : State} {k : LeaseNo} {x : LeaseRecord} (plan : RetirePlan)

theorem State.engines_startDrain (c : ChannelNo) : (s.startDrain k x plan).engines[c]
    = if s.engines[c].lease? = some k then s.engines[c].dropStage else s.engines[c] := by
  simp only [State.startDrain, State.putLease_engines, Fin.getElem_fin, State.engines_mapEngines]
  cases h : s.engines[c.val].lease? <;> simp

theorem State.timebases_putLease {r' : LeaseRecord} (hx : s.leases[k] = some x)
    (hw : leaseWiring (some r') = leaseWiring (some x)) : (s.putLease k (some r')).timebases = s.timebases := by
  refine table_ext fun tb => ?_
  have h : bindingsOn (putAt s.leases k (some r')) tb = bindingsOn s.leases tb := bindingsOn_congr fun n => by
    refine leaseBindingsOn_of_wiring ?_ tb
    have := (State.sameWiring_putLease (s := s) hx hw).leases n
    rwa [State.putLease, State.leases_setLeases] at this
  rw [State.putLease, Fin.getElem_fin, State.timebases_setLeases, h, Timebase.recount_same]
  rfl

theorem State.timebases_startDrain (hx : s.leases[k] = some x) : (s.startDrain k x plan).timebases = s.timebases :=
  State.timebases_putLease (s := s.mapEngines fun n e => if n = k then e.dropStage else e) hx rfl

theorem State.carrier_startDrain (c : Carrier) : ((s.startDrain k x plan).carrier c).divider = (s.carrier c).divider
    ∧ ((s.startDrain k x plan).carrier c).high = (s.carrier c).high := by
  rw [State.startDrain, State.putLease, State.carrier_setLeases, CarrierUnit.divider_recount, CarrierUnit.high_recount]
  cases c <;> exact ⟨rfl, rfl⟩

@[simp] theorem Phase.showsSafe_draining (plan : RetirePlan) : (Phase.draining plan).showsSafe = false := rfl

theorem State.leaseShown_startDrain (hx : s.leases[k] = some x) (hp : x.phase.amendable = true) (n : LeaseNo) :
    leaseShown (s.startDrain k x plan).leases[n] = leaseShown s.leases[n] := by
  rw [Fin.getElem_fin, State.leases_startDrain]
  split
  · rename_i hn
    obtain rfl := Fin.ext hn
    simp [leaseShown, hx, Phase.showsSafe_of_amendable hp, -Fin.getElem_fin]
  · rfl

theorem State.counterOf_startDrain (hx : s.leases[k] = some x) (n : LeaseNo) :
    (s.startDrain k x plan).counterOf n = s.counterOf n := by
  unfold State.counterOf
  rw [State.timebases_startDrain plan hx]
  by_cases hn : n = k
  · subst hn
    have ht : (s.startDrain n x plan).leases[n] = some { x with phase := .draining plan } := by simp
    rw [ht, hx]
  · have ht : (s.startDrain k x plan).leases[n] = s.leases[n] := by simp [Fin.val_ne_of_ne hn]
    rw [ht]

/-- A drained engine goes on generating what it generated: its output is that of its active settings (R80, R89). -/
theorem State.shown_startDrain (hx : s.leases[k] = some x) (c : ChannelNo) :
    ((s.startDrain k x plan).engineNow (s.startDrain k x plan).engines[c]).shown = (s.engineNow s.engines[c]).shown := by
  have hout : ∀ u v d, v.place = u.place → v.active = u.active →
      (s.startDrain k x plan).engineOutput v d = s.engineOutput u d := by
    intro u v d hplace hactive
    simp only [State.engineOutput, hplace, hactive, State.counterOf_startDrain plan hx, (State.carrier_startDrain plan _).2]
  rw [State.engines_startDrain]
  cases s.engines[c] with
  | unused => split <;> rfl
  | held u => split <;> rfl
  | generating u d o =>
    split
    · exact congrArg (fun out => some (u.active, out)) (hout u { u with staged := none } d rfl rfl)
    · exact congrArg (fun out => some (u.active, out)) (hout u u d rfl rfl)

end drain

theorem State.use?_engineNow (s : State) (e : Engine) :
    (s.engineNow e).use? = e.use? ∧ (s.engineNow e).isGenerating = e.isGenerating := by
  cases e <;> exact ⟨rfl, rfl⟩

/-- An engine of the drained lease drops its staged settings; every other keeps what it holds (R11, R80). -/
theorem State.use?_startDrain {s : State} {k : LeaseNo} (x : LeaseRecord) (plan : RetirePlan) (c : ChannelNo) :
    (s.startDrain k x plan).engines[c].isGenerating = s.engines[c].isGenerating
      ∧ (s.startDrain k x plan).engines[c].use? = s.engines[c].use?.map fun u =>
          if u.place.lease = k then { u with staged := none } else u := by
  rw [State.engines_startDrain]
  cases s.engines[c] with
  | unused => exact ⟨rfl, rfl⟩
  | held u | generating u d o =>
    by_cases hu : u.place.lease = k <;>
      simp [Engine.lease?, hu, Engine.dropStage, Engine.mapUse, Engine.use?, Engine.isGenerating]

/-- A RETIRE AT_BOUNDARY or RAMP of a RUNNING or AMEND_PENDING lease is accepted and drains it (R77, R78). -/
theorem retire_drains {ps : List Byte} {p : Phase} {plan : RetirePlan} {bytes : List Byte} (hp : p.amendable = true)
    (h : (arg ps 2 = 1 ∧ plan = .atBoundary ∧ bytes = [1, 0])
      ∨ (arg ps 2 = 2 ∧ arg ps 3 ≠ 0 ∧ plan = .ramp (arg ps 3) ∧ bytes = [2, byte (arg ps 3)])) :
    ∃ m, readRetireMode (arg ps 2) (arg ps 3) = some m ∧ m.accepts p = true ∧ m.plan p = some plan
      ∧ ∀ r : LeaseRecord, planBytes (some { r with phase := .draining plan }) = bytes := by
  have hacc : ∀ m : RetireMode, m.accepts p = true := fun m =>
    RetireMode.accepts_of_not_draining fun plan hd => by rw [hd] at hp; cases hp
  rcases h with ⟨h1, rfl, rfl⟩ | ⟨h2, h3, rfl, rfl⟩
  · exact ⟨.atBoundary, by simp [readRetireMode, h1], hacc _, by simp [RetireMode.plan, hp], fun r => rfl⟩
  · exact ⟨.ramp (arg ps 3), by simp [readRetireMode, h2, h3], hacc _, by simp [RetireMode.plan, hp], fun r => rfl⟩

/-- Settles O28: the RETIRE is accepted and its mode plans a drain of the lease. -/
theorem retireStartsADrain : Obligations.RetireStartsADrain := by
  unfold Obligations.RetireStartsADrain
  intro s l ps n r k x plan bytes h hsettled hcounts hk hx hauth hphase hplan
  have hp : x.phase.amendable = true := by rcases hphase with hp | ⟨old, hp⟩ <;> rw [hp] <;> rfl
  obtain ⟨m, hm, hacc, hmplan, hbytes⟩ := retire_drains hp hplan
  have hretire : (s.renewed n).retireLease k x m = (s.renewed n).startDrain k x plan := by
    rw [State.retireLease, hmplan]
  have hlease : ((s.renewed n).startDrain k x plan).leases[k] = some { x with phase := .draining plan } := by simp
  have hanswer : retireAnswer k (some { x with phase := .draining plan }) = goodResponse ([byte k.val, 4] ++ bytes) := by
    rw [retireAnswer, hbytes]; rfl
  have hperform := performRetire_ok h hk hx hauth hm hacc
  rw [hretire, hlease, hanswer] at hperform
  have hx' : (s.renewed n).leases[k] = some x := hx
  refine ⟨_, State.happen_served h hperform, ?_, fun j hj => ?_, fun c => ?_, ?_, by simp, ?_, fun c => ?_, fun c => ?_, ?_,
    ?_, ?_⟩
  · simp
  · simp [Fin.val_ne_of_ne hj]
  · rw [Fin.getElem_fin, State.engines_refresh, (State.use?_engineNow _ _).1, (State.use?_engineNow _ _).2,
      State.place_engines]
    exact State.use?_startDrain x plan c
  · refine State.pins_refresh_of_shown hsettled (by simp) (fun j => ?_) fun c => ?_
    · rw [State.place_leases]
      exact State.leaseShown_startDrain plan hx' hp j
    · rw [State.place_engines, State.engineNow_congr (s := (s.renewed n).startDrain k x plan) (by simp) (by simp) (by simp)
        (by simp)]
      exact State.shown_startDrain plan hx' c
  · rw [State.refresh_timebases, State.place_timebases, State.timebases_startDrain plan hx', State.renewed_timebases]
  · have hc := State.carrier_startDrain (s := s.renewed n) (k := k) (x := x) plan c
    cases c <;> simpa [State.carrier] using hc
  · have hdrained := State.countsAgree_setLeases (s := (s.renewed n).mapEngines fun j e => if j = k then e.dropStage else e)
      (putAt s.leases k (some { x with phase := .draining plan })) (hcounts.congr rfl (fun _ => rfl) fun c => by cases c <;> rfl)
    have hc := hdrained.2 c
    cases c <;> simpa [State.carrier, State.startDrain, State.putLease] using hc
  · exact State.renews_renewed h (by simp)
  · constructor <;> simp
  · exact State.answered_of_kept l _ (by simp) (by simp) (by simp) (by simp) (by simp) (by simp)

end Sys2Proof.Machine
end

section
/-! The reports of the queries and the lookups (R18 to R22, R66, R142, R171): each answers the record it names from the
renewed tables and changes nothing. -/

namespace Sys2Proof.Machine

/-! ## The bytes of the reports -/

/-- The record of a session after the renewal of the one that asks (R128). -/
theorem State.session_after_renewal {s : State} {n : SessionNo} {r : SessionRecord} (h : s.sessions[n] = some r)
    (j : SessionNo) : (s.renewed n).sessions[j] = if j = n then some r.renewed else s.sessions[j] := by
  by_cases hj : j = n
  · subst hj
    rw [if_pos rfl, State.session_renewed h]
  · rw [if_neg hj]
    simp [Fin.val_ne_of_ne hj]

theorem State.sessionBytes_eq (s : State) (j : SessionNo) :
    s.sessionBytes j = sessionReport j s.sessions[j] (s.heldCount j) := by
  unfold State.sessionBytes
  cases s.sessions[j] with
  | none => rfl
  | some r => cases hs : r.status <;> simp [sessionReport, hs, SessionStatus.code, SessionRecord.noticeCount]

theorem timebaseBytes_eq (tb : TimebaseNo) (t : Timebase) : timebaseBytes tb t = timebaseReport tb t := by
  cases hr : t.run with
  | none => simp [timebaseBytes, timebaseReport, Timebase.code, Timebase.holder?, periodBytes, indexByte, hr, twoBytes, byte]
  | some x =>
    simp [timebaseBytes, timebaseReport, Timebase.code, Timebase.holder?, periodBytes, indexByte, hr]

theorem leaseBytesActive_eq (k : LeaseNo) (l : Lease) : leaseBytesActive k l = leaseReport k l none := by
  cases l with
  | none => rfl
  | some x =>
    cases hp : x.phase with
    | draining plan => cases plan <;> simp [leaseBytesActive, leaseReport, hp, planBytes, LeaseRecord.causes] <;> rfl
    | tripped causes pending => simp [leaseBytesActive, leaseReport, hp, planBytes, LeaseRecord.causes]
    | _ =>
      simp [leaseBytesActive, leaseReport, hp, planBytes, LeaseRecord.causes]
      rfl

theorem leaseBytesStaged_eq {k : LeaseNo} {x : LeaseRecord} {staged : List Settings} (hp : x.phase = .amendPending staged) :
    leaseBytesStaged k x = leaseReport k (some x) (some staged) := by
  simp [leaseBytesStaged, leaseReport, hp, planBytes, LeaseRecord.causes, LeaseRecord.stagedChange]
  rfl

/-! ## What the commands answer -/

/-- A served command whose own checks leave the renewed tables as they are answers and changes nothing else. -/
theorem State.happen_reports {s : State} {c : Command} {l : Link} {ps : List Byte} {n : SessionNo} {r : SessionRecord}
    {perform : State → SessionNo → List Byte → Performed} {resp : Response} (h : s.Serves c l ps n r) (hs : s.Settled)
    (hp : perform (s.renewed n) n ps = .ok (s.renewed n, resp)) :
    ∃ t, s.happen (fun s => s.takeSession c perform) = .next t ∧ s.AnsweredAlone t l resp n r :=
  ⟨_, State.happen_served h hp, State.answeredAlone_renewed h hs resp⟩

theorem need_indexOf {m : Nat} {k : Nat} {i : Fin m} (h : k = i.val) (status : Status) (d : Byte) :
    need (indexOf m k) status d = .ok i := by
  rw [h, indexOf_val, need_some]

/-- Settles O17, query by query. -/
theorem queriesReportTheRecord : Obligations.QueriesReportTheRecord := by
  unfold Obligations.QueriesReportTheRecord
  intro s l ps n r hs
  refine ⟨fun h j hj => ?_, fun h tb htb => ?_, fun h j hj => ?_⟩
  · refine State.happen_reports h hs ?_
    simp only [performQuerySession, need_indexOf hj, bind, Except.bind]
    rw [State.sessionBytes_eq, State.session_after_renewal h.record]
    rfl
  · refine State.happen_reports h hs ?_
    simp only [performQueryTimebase, need_indexOf htb, bind, Except.bind]
    rw [timebaseBytes_eq, State.renewed_timebases]
  · have hperform : performListLeases (s.renewed n) n ps = .ok (s.renewed n,
        goodResponse ([byte j.val, byte (s.heldLeases j).length]
          ++ (s.heldLeases j).flatMap fun k => [byte k.val, leaseCode s.leases[k]])) := by
      simp only [performListLeases, need_indexOf hj, bind, Except.bind]
      rfl
    obtain ⟨t, hexec, ht⟩ := State.happen_reports h hs hperform
    refine ⟨t, s.heldLeases j, ?_, fun k => ?_, hexec, ht⟩
    · exact (List.pairwise_lt_finRange 16).filter _
    · simp [State.heldLeases]

/-- Settles O18, view by view. -/
theorem lookupsReportTheLease : Obligations.LookupsReportTheLease := by
  unfold Obligations.LookupsReportTheLease
  intro s l ps n r hs
  refine ⟨fun h k hk hview => ?_, fun h k x staged hk hview hx hp => ?_, fun h p hpin => ?_⟩
  · refine State.happen_reports h hs ?_
    simp only [performQueryLease, readLease_ok hk, hview, bind, Except.bind]
    rw [← leaseBytesActive_eq]
    rfl
  · have hx' : (s.renewed n).leases[k] = some x := hx
    have hperform : performQueryLease (s.renewed n) n ps = .ok (s.renewed n, goodResponse (leaseBytesStaged k x)) := by
      simp only [performQueryLease, readLease_ok hk, hview, bind, Except.bind, hx', checkPhase, hp]
      rfl
    rw [hx, ← leaseBytesStaged_eq hp]
    exact State.happen_reports h hs hperform
  · have hperform : performFindByPin (s.renewed n) n ps = .ok (s.renewed n,
        goodResponse (byte p.val :: ownerBytes s.pins[p] ++ [s.pins[p].level.code, s.pins[p].rest.code])) := by
      simp only [performFindByPin, need_indexOf hpin, bind, Except.bind, State.renewed_pins]
    exact State.happen_reports h hs hperform

end Sys2Proof.Machine
end

section
/-! A served command refuses at the first of its own checks that fails (R12 to R14, R60 to R62, R69 to R72, R97, R101, R108,
R109, R117, R119, R121, R137, R140, R142). -/

namespace Sys2Proof.Machine

variable {s : State} {c : Command} {l : Link} {ps : List Byte} {n : SessionNo} {r : SessionRecord} {k : LeaseNo}
  {status : Status} {detail : Byte}

/-! ## Refusals of the shared checks -/

theorem need_indexOf_error {m i : Nat} (h : m ≤ i) (status : Status) (d : Byte) :
    need (indexOf m i) status d = .error { status := status, detail := d } := by
  rw [indexOf, dif_neg (by omega), need_none]

theorem readLease_error (h : 16 ≤ arg ps 1) : readLease ps = .error { status := .badArgument, detail := 0xFF } :=
  need_indexOf_error h _ _

theorem check_eq_error {cond : Bool} (h : ¬ cond = true) (status : Status) (d : Byte) :
    check cond status d = .error { status := status, detail := d } := by
  rw [Bool.not_eq_true] at h
  rw [h, check_error]

theorem checkPhase_error {x : Lease} {accepts : Phase → Bool} (h : ∀ q, x = some q → accepts q.phase = false) :
    checkPhase x accepts = .error { status := .wrongState, detail := leaseCode x } := by
  cases x with
  | none => rfl
  | some q => simp [checkPhase, h q rfl]

/-- The class of the session that asks, read after its renewal (R128). -/
theorem State.Serves.isSupervisor (h : s.Serves c l ps n r) :
    (s.renewed n).isSupervisor n = true ↔ r.cls = .supervisor := by
  rw [State.isSupervisor_renewed h.record, State.isSupervisor_iff h.record]

theorem State.Serves.quotaOf (h : s.Serves c l ps n r) : (s.renewed n).quotaOf n = r.quota := by
  simp only [State.quotaOf, State.session_renewed h.record, SessionRecord.quota_renewed]

/-! ## The lease guard (R12 to R14) -/

/-- The authority of AMEND, RETIRE and CLEAR TRIP: the holder's, and the supervisor's where the command gives it (R13). -/
theorem mayAct_iff {may : Bool} {x : Lease} (hc : c = .amend ∧ may = false ∨ (c = .retire ∨ c = .clearTrip) ∧ may = true) :
    MayAct c r n x ↔ heldBy x n = true ∨ (may = true ∧ r.cls = .supervisor) := by
  rcases hc with ⟨rfl, rfl⟩ | ⟨rfl | rfl, rfl⟩ <;> simp [MayAct]

theorem State.Serves.checkHolder (h : s.Serves c l ps n r) (k : LeaseNo) {may : Bool}
    (hc : c = .amend ∧ may = false ∨ (c = .retire ∨ c = .clearTrip) ∧ may = true) (ha : MayAct c r n s.leases[k]) :
    (s.renewed n).checkHolder n k may = .ok () :=
  State.checkHolder_ok (((mayAct_iff hc).1 ha).imp id fun ⟨hmay, hr⟩ => ⟨hmay, h.isSupervisor.2 hr⟩)

theorem State.Serves.checkHolder_error (h : s.Serves c l ps n r) (k : LeaseNo) {may : Bool}
    (hc : c = .amend ∧ may = false ∨ (c = .retire ∨ c = .clearTrip) ∧ may = true) (ha : ¬ MayAct c r n s.leases[k]) :
    (s.renewed n).checkHolder n k may = .error { status := .notHolder, detail := holderByte s.leases[k] } := by
  refine check_eq_error (fun hpass => ha ((mayAct_iff hc).2 ?_)) _ _
  rw [Bool.or_eq_true, Bool.and_eq_true] at hpass
  exact hpass.imp id fun ⟨hmay, hr⟩ => ⟨hmay, h.isSupervisor.1 hr⟩

theorem performAmend_guard (h : s.Serves .amend l ps n r) (hg : s.GuardRefuses .amend n r ps status detail) :
    performAmend (s.renewed n) n ps = .error { status := status, detail := detail } := by
  obtain ⟨-, ⟨hnum, rfl, rfl⟩ | ⟨k, hk, hcase⟩⟩ := hg
  · simp only [performAmend, readLease_error hnum, bind, Except.bind]
  have hread := readLease_ok hk
  rcases hcase with ⟨-, hc, -⟩ | ⟨ha, -, rfl, rfl⟩ | ⟨-, hm, -⟩ | ⟨ha, -, hstate, rfl, rfl⟩ | ⟨-, -, hc, -⟩
  · cases hc
  · simp only [performAmend, hread, h.checkHolder_error (may := false) k (by simp) ha, bind, Except.bind]
    rfl
  · exact absurd ⟨nofun, nofun⟩ hm
  · have hphase : checkPhase (s.renewed n).leases[k] Phase.amendable = _ := checkPhase_error fun x hx => by
      rw [State.renewed_leases] at hx
      cases hp : x.phase with
      | running => exact absurd (.inr ⟨x, hx, .inl ⟨rfl, .inl hp⟩⟩) hstate
      | amendPending staged => exact absurd (.inr ⟨x, hx, .inl ⟨rfl, .inr ⟨staged, hp⟩⟩⟩) hstate
      | _ => rfl
    simp only [performAmend, hread, h.checkHolder (may := false) k (by simp) ha, hphase, bind, Except.bind]
    rfl
  · cases hc

theorem readRetireMode_eq_none (h : ¬ ModePasses .retire ps) : readRetireMode (arg ps 2) (arg ps 3) = none := by
  simp only [ModePasses, not_and_or, Classical.not_imp, reduceCtorEq, false_and, or_false, true_and, not_or] at h
  obtain ⟨hmode, hstep⟩ := h
  generalize arg ps 2 = mode at *
  match mode with
  | 0 | 1 => omega
  | 2 => simpa [readRetireMode] using hstep
  | m + 3 => rfl

theorem readRetireMode_isSome (h : ModePasses .retire ps) : ∃ m, readRetireMode (arg ps 2) (arg ps 3) = some m
    ∧ (m = .immediate ↔ arg ps 2 = 0) := by
  rcases h.1 rfl with hmode | ⟨hmode, hstep⟩
  · obtain h0 | h1 : arg ps 2 = 0 ∨ arg ps 2 = 1 := by omega
    · exact ⟨.immediate, by simp [readRetireMode, h0], by simp [h0]⟩
    · exact ⟨.atBoundary, by simp [readRetireMode, h1], by simp [h1]⟩
  · exact ⟨.ramp (arg ps 3), by simp [readRetireMode, hmode, hstep], by simp [hmode]⟩

theorem performRetire_guard (h : s.Serves .retire l ps n r) (hg : s.GuardRefuses .retire n r ps status detail) :
    performRetire (s.renewed n) n ps = .error { status := status, detail := detail } := by
  obtain ⟨-, ⟨hnum, rfl, rfl⟩ | ⟨k, hk, hcase⟩⟩ := hg
  · simp only [performRetire, readLease_error hnum, bind, Except.bind]
  have hread := readLease_ok hk
  rcases hcase with ⟨-, hc, -⟩ | ⟨ha, -, rfl, rfl⟩ | ⟨ha, hm, rfl, rfl⟩ | ⟨ha, hm, hstate, rfl, rfl⟩ | ⟨-, -, hc, -⟩
  · cases hc
  · simp only [performRetire, hread, h.checkHolder_error (may := true) k (by simp) ha, bind, Except.bind]
    rfl
  · simp only [performRetire, hread, h.checkHolder (may := true) k (by simp) ha, readRetireMode_eq_none hm, need_none, bind, Except.bind]
  · obtain ⟨m, hmode, himmediate⟩ := readRetireMode_isSome hm
    have hphase : checkPhase (s.renewed n).leases[k] m.accepts = _ := checkPhase_error fun x hx => by
      rw [State.renewed_leases] at hx
      have hno : ¬ (arg ps 2 = 0 ∨ ∀ plan, x.phase ≠ .draining plan) :=
        fun hyes => hstate (.inr ⟨x, hx, .inr (.inl ⟨rfl, hyes⟩)⟩)
      rw [not_or, ← himmediate] at hno
      cases hp : x.phase with
      | draining plan =>
        cases m with
        | immediate => exact absurd rfl hno.1
        | _ => rfl
      | _ => exact absurd (fun plan => by rw [hp]; exact nofun) hno.2
    simp only [performRetire, hread, h.checkHolder (may := true) k (by simp) ha, hmode, need_some, hphase, bind, Except.bind]
    rfl
  · cases hc

theorem performClearTrip_guard (h : s.Serves .clearTrip l ps n r)
    (hg : s.GuardRefuses .clearTrip n r ps status detail) :
    performClearTrip (s.renewed n) n ps = .error { status := status, detail := detail } := by
  obtain ⟨-, ⟨hnum, rfl, rfl⟩ | ⟨k, hk, hcase⟩⟩ := hg
  · simp only [performClearTrip, readLease_error hnum, bind, Except.bind]
  have hread := readLease_ok hk
  rcases hcase with ⟨-, hc, -⟩ | ⟨ha, -, rfl, rfl⟩ | ⟨-, hm, -⟩ | ⟨ha, -, hstate, rfl, rfl⟩ | ⟨-, -, hc, -⟩
  · cases hc
  · simp only [performClearTrip, hread, h.checkHolder_error (may := true) k (by simp) ha, bind, Except.bind]
    rfl
  · exact absurd ⟨nofun, nofun⟩ hm
  · have hphase : checkPhase (s.renewed n).leases[k] Phase.isTripped = _ := checkPhase_error fun x hx => by
      rw [State.renewed_leases] at hx
      cases hp : x.phase with
      | tripped causes pending =>
        exact absurd (.inr ⟨x, hx, .inr (.inr (.inl ⟨rfl, causes, pending, hp⟩))⟩) hstate
      | _ => rfl
    simp only [performClearTrip, hread, h.checkHolder (may := true) k (by simp) ha, hphase, bind, Except.bind]
    rfl
  · cases hc

theorem performQueryLease_guard (hg : s.GuardRefuses .queryLease n r ps status detail) :
    performQueryLease (s.renewed n) n ps = .error { status := status, detail := detail } := by
  obtain ⟨-, ⟨hnum, rfl, rfl⟩ | ⟨k, hk, hcase⟩⟩ := hg
  · simp only [performQueryLease, readLease_error hnum, bind, Except.bind]
  have hread := readLease_ok hk
  have hact : MayAct .queryLease r n s.leases[k] := .inr (.inr rfl)
  rcases hcase with ⟨-, hc, -⟩ | ⟨ha, -⟩ | ⟨-, hm, rfl, rfl⟩ | ⟨-, hm, hstate, rfl, rfl⟩ | ⟨-, -, hc, -⟩
  · cases hc
  · exact absurd hact ha
  · have hview : ¬ arg ps 2 < 2 := fun hlt => hm ⟨nofun, fun _ => hlt⟩
    have hcheck : ¬ (arg ps 2 == 0 || arg ps 2 == 1) = true := by
      rw [Bool.or_eq_true, beq_iff_eq, beq_iff_eq]
      omega
    simp only [performQueryLease, hread, check_eq_error hcheck, bind, Except.bind]
  · have hview : arg ps 2 = 1 := by
      have h0 : arg ps 2 ≠ 0 := fun h0 => hstate (.inl ⟨rfl, h0⟩)
      have := hm.2 rfl
      omega
    simp only [performQueryLease, hread, hview, bind, Except.bind]
    have hphase : ∀ x, (s.renewed n).leases[k] = some x → ∀ staged, x.phase ≠ .amendPending staged := fun x hx staged hp =>
      hstate (.inr ⟨x, hx, .inr (.inr (.inr (.inr ⟨rfl, staged, hp⟩)))⟩)
    rw [if_neg (by decide), checkPhase_error fun x hx => ?_]
    · rfl
    · cases hp : x.phase with
      | amendPending staged => exact absurd hp (hphase x hx staged)
      | _ => rfl
  · cases hc

theorem State.Serves.checkSupervisor (h : s.Serves c l ps n r) (hr : r.cls = .supervisor) :
    (s.renewed n).checkSupervisor n = .ok () := check_eq_ok.2 (h.isSupervisor.2 hr)

theorem State.Serves.checkSupervisor_error (h : s.Serves c l ps n r) (hr : r.cls ≠ .supervisor) :
    (s.renewed n).checkSupervisor n = .error { status := .notSupervisor, detail := 0 } :=
  check_eq_error (mt h.isSupervisor.1 hr) _ _

/-- ADOPT finds a lease adoptable when its holder is LAPSED (R14, R137). -/
theorem State.Serves.checkAdoptable (h : s.Serves .adopt l ps n r) (mode : Nat) {k : LeaseNo}
    (ha : s.LeaseAccepts .adopt mode s.leases[k]) : ∃ x, (s.renewed n).checkAdoptable k = .ok x := by
  obtain ⟨hc, -⟩ | ⟨x, hx, ⟨hc, -⟩ | ⟨hc, -⟩ | ⟨hc, -⟩ | ⟨-, y, m, hy, hm⟩ | ⟨hc, -⟩⟩ := ha
  any_goals cases hc
  refine ⟨x, ?_⟩
  have hlapsed : (s.renewed n).isLapsed x.holder = true := by
    rw [State.isLapsed_renewed h.record, State.isLapsed, hy]
    simp [hm]
  simp only [State.checkAdoptable, State.renewed_leases, hx, hlapsed, if_true]

theorem State.Serves.checkAdoptable_error (h : s.Serves .adopt l ps n r) (mode : Nat) {k : LeaseNo}
    (ha : ¬ s.LeaseAccepts .adopt mode s.leases[k]) :
    (s.renewed n).checkAdoptable k = .error { status := .wrongState, detail := leaseCode s.leases[k] } := by
  simp only [State.checkAdoptable, State.renewed_leases]
  cases hx : s.leases[k] with
  | none => rfl
  | some x =>
    have hlapsed : (s.renewed n).isLapsed x.holder = false := by
      rw [State.isLapsed_renewed h.record, State.isLapsed]
      cases hy : s.sessions[x.holder] with
      | none => rfl
      | some y =>
        cases hm : y.status with
        | opened m => simp [hm]
        | lapsed m => exact absurd (.inr ⟨x, hx, .inr (.inr (.inr (.inl ⟨rfl, y, m, hy, hm⟩)))⟩) ha
    simp only [hlapsed, Bool.false_eq_true, if_false]

theorem performAdopt_guard (h : s.Serves .adopt l ps n r) (hg : s.GuardRefuses .adopt n r ps status detail) :
    performAdopt (s.renewed n) n ps = .error { status := status, detail := detail } := by
  have hact : ∀ x, MayAct .adopt r n x ↔ r.cls = .supervisor := fun x => by simp [MayAct]
  obtain ⟨-, ⟨hnum, rfl, rfl⟩ | ⟨k, hk, hcase⟩⟩ := hg
  · simp only [performAdopt, readLease_error hnum, bind, Except.bind]
  have hread := readLease_ok hk
  simp only [hact] at hcase
  rcases hcase with ⟨ha, -, rfl, rfl⟩ | ⟨-, hc, -⟩ | ⟨-, hm, -⟩ | ⟨ha, -, hstate, rfl, rfl⟩
    | ⟨ha, hstate, -, hquota, rfl, rfl⟩
  · simp only [performAdopt, hread, h.checkSupervisor_error ha, bind, Except.bind]
  · exact absurd rfl hc
  · exact absurd ⟨nofun, nofun⟩ hm
  · simp only [performAdopt, hread, h.checkSupervisor ha, h.checkAdoptable_error _ hstate, bind, Except.bind]
  · obtain ⟨x, hx⟩ := h.checkAdoptable _ hstate
    have hcheck : ¬ ((s.renewed n).heldCount n != (s.renewed n).quotaOf n) = true := by
      rw [bne_iff_ne, not_not, h.quotaOf]
      exact hquota
    simp only [performAdopt, hread, h.checkSupervisor ha, hx, check_eq_error hcheck, bind, Except.bind]
    rw [h.quotaOf]

/-! ## The steps of AMEND after the guard (R69 to R72) -/

theorem amendSafeFits_iff_pass {z : Binding × Settings} :
    amendSafeFits z = true ↔ ∀ k, z.1.complement = some k → SafeLevelsPass z.2.polarity z.1.safe k.safe := by
  simp only [amendSafeFits_iff, safePairFits_iff]

theorem performAmend_refuses (h : s.Serves .amend l ps n r) (ha : s.AmendRefuses n r ps status detail) :
    performAmend (s.renewed n) n ps = .error { status := status, detail := detail } := by
  obtain ⟨k, x, y, hk, hx, hact, hstate, hy, hrefused⟩ := ha
  have hread := readLease_ok hk
  have hauth := h.checkHolder (may := false) k (by simp) hact
  have hamendable : x.phase.amendable = true := by
    obtain ⟨hc, -⟩ | ⟨x', hx', ⟨-, hp | ⟨staged, hp⟩⟩ | ⟨hc, -⟩ | ⟨hc, -⟩ | ⟨hc, -⟩ | ⟨hc, -⟩⟩ := hstate
    any_goals cases hc
    all_goals
      obtain rfl : x = x' := Option.some.inj (hx.symm.trans hx')
      rw [hp]
      rfl
  have hphase : checkPhase (s.renewed n).leases[k] Phase.amendable = .ok x := checkPhase_ok hx hamendable
  have hperiod : (s.renewed n).comingPeriod x.timebase = y.coming := by
    simp only [State.comingPeriod, State.renewed_timebases, hy]
  have hduty : ∀ st : Settings, decide (st.duty ≤ y.coming) = true ↔ st.duty ≤ y.coming := fun st => decide_eq_true_iff
  have hgate : ∀ st : Settings, (s.renewed n).gateRunning st.gate = true ↔ s.GatePasses st := fun st =>
    State.gateRunning_iff (s.renewed n)
  obtain ⟨hcount, rfl, rfl⟩ | ⟨hcarried, hbound, hblocks⟩ := hrefused
  · have hcheck : ¬ (arg ps 2 == (ps.length - 3) / 4 && arg ps 2 == x.bindings.length) = true := by
      rwa [Bool.and_eq_true, beq_iff_eq, beq_iff_eq, not_and_or]
    simp only [performAmend, hread, hauth, hphase, check_eq_error hcheck, bind, Except.bind]
  have hcheck : check (arg ps 2 == (ps.length - 3) / 4 && arg ps 2 == x.bindings.length) .badArgument 0xFF = .ok () :=
    check_eq_ok.2 (by rw [Bool.and_eq_true, beq_iff_eq, beq_iff_eq]; exact ⟨hcarried, hbound⟩)
  obtain ⟨xs, hlen, hspelled, hnone, rfl, rfl⟩ | ⟨sts, hlen, hspelled, hlast⟩ := hblocks
  · have hblocks := readAmendBlocks_error hlen (amendBlocksFrom_zero.2 hspelled)
      fun st hst => hnone st (amendBlocksFrom_zero.1 hst)
    rw [Nat.zero_add] at hblocks
    simp only [performAmend, hread, hauth, hphase, hcheck, hblocks, bind, Except.bind]
  have hblocks := readAmendBlocks_eq_ok.2 ⟨hlen, hspelled⟩
  simp only [performAmend, hread, hauth, hphase, hcheck, hblocks, hperiod, bind, Except.bind]
  obtain ⟨i, hfirst, rfl, rfl⟩ | ⟨hduties, hlast⟩ := hlast
  · simp only [checkEach_error hduty hfirst]
  simp only [checkEach_ok hduty hduties]
  obtain ⟨i, hfirst, rfl, rfl⟩ | ⟨hsafe, i, hfirst, rfl, rfl⟩ := hlast
  · simp only [checkEach_error (fun _ => amendSafeFits_iff_pass) hfirst]
  · simp only [checkEach_ok (fun _ => amendSafeFits_iff_pass) hsafe, checkEach_error hgate hfirst]

/-! ## RETUNE (R60 to R62) -/

theorem State.Serves.mayRetune_iff (h : s.Serves c l ps n r) (tb : TimebaseNo) :
    (s.renewed n).mayRetune n tb = true ↔ s.MayRetune n r tb := by
  rw [State.mayRetune, Bool.or_eq_true, h.isSupervisor, State.MayRetune, or_comm, State.renewed_timebases,
    Timebase.holder?]
  cases s.timebases[tb].run <;> simp [-Fin.getElem_fin]

theorem LeaseRecord.dutyExceeds_iff (q : LeaseRecord) (tb : TimebaseNo) (period : Nat) :
    q.DutyExceeds tb period ↔ (q.timebase == tb && !q.dutiesFit period) = true := by
  simp [LeaseRecord.DutyExceeds, LeaseRecord.dutiesFit]

/-- The lowest-numbered lease of a timebase with a duty above a period is the one that RETUNE names (R62). -/
theorem State.lowestUnfit_eq_some {tb : TimebaseNo} {period : Nat}
    (hk : ∃ q, s.leases[k] = some q ∧ q.DutyExceeds tb period)
    (hb : ∀ j : LeaseNo, j < k → leaseHas s.leases[j] fun q => ¬ q.DutyExceeds tb period) :
    s.lowestUnfit tb period = some k := by
  refine find_finRange_some ?_ fun j hj => ?_
  · obtain ⟨q, hq, hexceeds⟩ := hk
    rw [hq]
    exact (q.dutyExceeds_iff tb period).1 hexceeds
  · have hfits := leaseHas_iff.1 (hb j hj)
    cases hq : s.leases[j] with
    | none => rfl
    | some q =>
      have := hfits q hq
      rwa [LeaseRecord.dutyExceeds_iff, Bool.not_eq_true] at this

theorem performRetune_refuses (h : s.Serves .retune l ps n r) (hr : s.RetuneRefused n r ps status detail) :
    performRetune (s.renewed n) n ps = .error { status := status, detail := detail } := by
  obtain ⟨hnum, rfl, rfl⟩ | ⟨tb, htb, hcase⟩ := hr
  · simp only [performRetune, need_indexOf_error hnum, bind, Except.bind]
  have hread := need_indexOf htb .badArgument 0xFF
  have hpass : s.MayRetune n r tb → (s.renewed n).mayRetune n tb = true := (h.mayRetune_iff tb).2
  simp only [performRetune, hread, bind, Except.bind, State.renewed_timebases]
  rcases hcase with ⟨hmay, rfl, rfl⟩ | ⟨hmay, hrun, rfl, rfl⟩ | ⟨hmay, hrun, hperiod, rfl, rfl⟩
    | ⟨hmay, hrun, hlow, hhigh, k, hk, hb, rfl, rfl⟩
  · rw [check_eq_error (mt (h.mayRetune_iff tb).1 hmay), Timebase.holder?]
    cases s.timebases[tb].run <;> rfl
  · simp only [hpass hmay, check_ok, hrun, need_none]
  · obtain ⟨x, hx⟩ := Option.ne_none_iff_exists'.1 hrun
    have hcheck : ¬ (decide (16 ≤ arg2 ps 2) && decide (arg2 ps 2 ≤ 4095)) = true := by
      rw [Bool.and_eq_true, decide_eq_true_iff, decide_eq_true_iff]
      omega
    simp only [hpass hmay, check_ok, hx, need_some, check_eq_error hcheck]
  · obtain ⟨x, hx⟩ := Option.ne_none_iff_exists'.1 hrun
    have hcheck : (decide (16 ≤ arg2 ps 2) && decide (arg2 ps 2 ≤ 4095)) = true := by simp [hlow, hhigh]
    have hunfit : (s.renewed n).lowestUnfit tb (arg2 ps 2) = some k := State.lowestUnfit_eq_some hk hb
    simp only [hpass hmay, check_ok, hx, need_some, hcheck, State.checkDuties, hunfit]

/-! ## The configuration commands (R97, R101, R119, R121, R140) -/

theorem State.supervisor_isNone_iff : s.supervisor.isNone = true ↔ ∀ m, s.isSupervisor m = false := by
  simp [State.supervisor]

/-- A session that sends a command a LAPSED one may not is OPEN, so that the permission check asks for its class alone
(R133, R140). -/
theorem State.Serves.mayConfigure_iff (h : s.Serves c l ps n r) (hc : c.lapsedMay = false) :
    ((s.renewed n).supervisor.isNone || ((s.renewed n).isSupervisor n && !(s.renewed n).isLapsed n)) = true
      ↔ s.MayConfigure r := by
  have hopen : (s.renewed n).isLapsed n = false := by
    rw [State.isLapsed_renewed h.record, State.isLapsed, h.record]
    have hallowed := h.allowed
    cases hr : r.status with
    | opened t => simp [hr]
    | lapsed t => simp [hr, Command.allowedIn, hc] at hallowed
  rw [hopen, Bool.not_false, Bool.and_true, Bool.or_eq_true, State.supervisor_isNone_iff, h.isSupervisor,
    State.MayConfigure]
  simp only [State.isSupervisor_renewed h.record]

theorem State.Serves.checkConfigure (h : s.Serves c l ps n r) (hc : c.lapsedMay = false) (hm : s.MayConfigure r) :
    (s.renewed n).checkConfigure n = .ok () := check_eq_ok.2 ((h.mayConfigure_iff hc).2 hm)

theorem State.Serves.checkConfigure_error (h : s.Serves c l ps n r) (hc : c.lapsedMay = false)
    (hm : ¬ s.MayConfigure r) :
    (s.renewed n).checkConfigure n = .error { status := .notSupervisor, detail := 0 } :=
  check_eq_error (mt (h.mayConfigure_iff hc).1 hm) _ _

theorem performSetPinRest_refuses (hpass : (s.renewed n).checkConfigure n = .ok ())
    (hr : s.ConfigurationRefused .setPinRest ps status detail) :
    performSetPinRest (s.renewed n) n ps = .error { status := status, detail := detail } := by
  obtain ⟨⟨-, hfield⟩ | ⟨hc, -⟩ | ⟨hc, -⟩ | ⟨hc, -⟩, rfl, rfl⟩ | ⟨hc, -⟩ | ⟨hc, -⟩ := hr
  any_goals cases hc
  simp only [performSetPinRest, hpass, bind, Except.bind]
  cases hpin : indexOf 24 (arg ps 1) with
  | none => rw [need_none]
  | some p =>
    have hlevel : 3 ≤ arg ps 2 := by
      have := indexOf_eq_some.1 hpin
      omega
    have hnone : Level.ofCode (arg ps 2) = none := by
      obtain ⟨m, hm⟩ := Nat.exists_eq_add_of_le' hlevel
      rw [hm]
      rfl
    rw [hnone, need_some, need_none]

theorem carrierOfCode_eq_some {m : Nat} {d : Carrier} (h : carrierOfCode m = some d) : m = 1 ∨ m = 2 := by
  match m with
  | 0 => cases h
  | 1 => exact .inl rfl
  | 2 => exact .inr rfl
  | _ + 3 => cases h

theorem performSetCarrier_refuses (hpass : (s.renewed n).checkConfigure n = .ok ())
    (hr : s.ConfigurationRefused .setCarrier ps status detail) :
    performSetCarrier (s.renewed n) n ps = .error { status := status, detail := detail } := by
  obtain ⟨⟨hc, -⟩ | ⟨-, hfield⟩ | ⟨hc, -⟩ | ⟨hc, -⟩, rfl, rfl⟩ | ⟨-, hdivider, rfl, d, hd, huse, rfl⟩ | ⟨hc, -⟩ := hr
  any_goals cases hc
  · simp only [performSetCarrier, hpass, bind, Except.bind]
    cases hd : carrierOfCode (arg ps 1) with
    | none => rw [need_none]
    | some d =>
      have hdivider : ¬ decide (arg2 ps 2 ≤ 1023) = true := by
        have := carrierOfCode_eq_some hd
        rw [decide_eq_true_iff]
        omega
      simp only [need_some, check_eq_error hdivider]
  · have hcode : carrierOfCode (arg ps 1) = some d := by
      rw [hd]
      cases d <;> rfl
    have hbusy : ¬ ((s.carrier d).inUse == 0) = true := by rwa [beq_iff_eq]
    have hkept : (s.renewed n).carrier d = s.carrier d := by cases d <;> rfl
    simp only [performSetCarrier, hpass, hcode, need_some, hdivider, decide_true, check_ok, hkept, check_eq_error hbusy, bind,
      Except.bind]

theorem faultLineOfCode_eq_some {m : Nat} {i : FaultLine} (h : faultLineOfCode m = some i) : m < 2 := by
  match m with
  | 0 | 1 => omega
  | _ + 2 => cases h

theorem edgeOfCode_of_lt {m : Nat} (h : m < 2) : ∃ e, Edge.ofCode m = some e := by
  match m with
  | 0 => exact ⟨_, rfl⟩
  | 1 => exact ⟨_, rfl⟩

theorem performSetFaultEdge_refuses (hpass : (s.renewed n).checkConfigure n = .ok ())
    (hr : s.ConfigurationRefused .setFaultEdge ps status detail) :
    performSetFaultEdge (s.renewed n) n ps = .error { status := status, detail := detail } := by
  obtain ⟨⟨hc, -⟩ | ⟨hc, -⟩ | ⟨-, hfield⟩ | ⟨hc, -⟩, rfl, rfl⟩ | ⟨hc, -⟩ | ⟨-, hedge, rfl, i, hi, huse, rfl⟩ := hr
  any_goals cases hc
  · simp only [performSetFaultEdge, hpass, bind, Except.bind]
    cases hi : faultLineOfCode (arg ps 1) with
    | none => rw [need_none]
    | some i =>
      have hedge : Edge.ofCode (arg ps 2) = none := by
        have hlt := faultLineOfCode_eq_some hi
        obtain ⟨m, hm⟩ := Nat.exists_eq_add_of_le' (show 2 ≤ arg ps 2 by omega)
        rw [hm]
        rfl
      rw [hedge, need_some, need_none]
  · have hline : faultLineOfCode (arg ps 1) = some i := by
      rw [hi]
      cases i <;> rfl
    obtain ⟨e, he⟩ := edgeOfCode_of_lt hedge
    have hcount : (s.renewed n).countLeases (subscribedTo i) = s.subscribers i := rfl
    have hbusy : ¬ (s.subscribers i == 0) = true := by rwa [beq_iff_eq]
    simp only [performSetFaultEdge, hpass, hline, he, need_some, hcount, check_eq_error hbusy, bind, Except.bind]

theorem performSetSupplyLevel_refuses (hpass : (s.renewed n).checkConfigure n = .ok ())
    (hr : s.ConfigurationRefused .setSupplyLevel ps status detail) :
    performSetSupplyLevel (s.renewed n) n ps = .error { status := status, detail := detail } := by
  obtain ⟨⟨hc, -⟩ | ⟨hc, -⟩ | ⟨hc, -⟩ | ⟨-, hfield⟩, rfl, rfl⟩ | ⟨hc, -⟩ | ⟨hc, -⟩ := hr
  any_goals cases hc
  simp only [performSetSupplyLevel, hpass, need_indexOf_error hfield, bind, Except.bind]

/-! ## The refusals as the executor answers them (R164) -/

/-- A served command of the executor refuses the way its own checks do. -/
def State.Refuses (s : State) (c : Command) (l : Link) (n : SessionNo) (r : SessionRecord) (status : Status)
    (detail : Byte) : Prop :=
  ∃ t, exec c.instr s = .next t ∧ s.AnsweredAlone t l { status := status, detail := detail, data := [] } n r

theorem State.refuses_of_guard (h : s.Serves c l ps n r) (hs : s.Settled)
    (hg : s.GuardRefuses c n r ps status detail) : s.Refuses c l n r status detail := by
  obtain rfl | rfl | rfl | rfl | rfl := hg.1
  · exact State.happen_refused h hs (performAmend_guard h hg)
  · exact State.happen_refused h hs (performRetire_guard h hg)
  · exact State.happen_refused h hs (performClearTrip_guard h hg)
  · exact State.happen_refused h hs (performAdopt_guard h hg)
  · exact State.happen_refused h hs (performQueryLease_guard hg)

/-- A configuration command refuses a session that may not configure the part, and else where its fields or uses do
(R140). -/
theorem State.refuses_of_configuration (h : s.Serves c l ps n r) (hs : s.Settled)
    (hc : c = .setPinRest ∨ c = .setCarrier ∨ c = .setFaultEdge ∨ c = .setSupplyLevel)
    (hr : ¬ s.MayConfigure r ∧ status = .notSupervisor ∧ detail = 0
      ∨ s.MayConfigure r ∧ s.ConfigurationRefused c ps status detail) : s.Refuses c l n r status detail := by
  have hlapsed : c.lapsedMay = false := by rcases hc with rfl | rfl | rfl | rfl <;> rfl
  rcases hr with ⟨hm, rfl, rfl⟩ | ⟨hm, hr⟩
  · have hfail := h.checkConfigure_error hlapsed hm
    rcases hc with rfl | rfl | rfl | rfl
    · exact State.happen_refused h hs (perform := performSetPinRest)
        (by simp only [performSetPinRest, hfail, bind, Except.bind])
    · exact State.happen_refused h hs (perform := performSetCarrier)
        (by simp only [performSetCarrier, hfail, bind, Except.bind])
    · exact State.happen_refused h hs (perform := performSetFaultEdge)
        (by simp only [performSetFaultEdge, hfail, bind, Except.bind])
    · exact State.happen_refused h hs (perform := performSetSupplyLevel)
        (by simp only [performSetSupplyLevel, hfail, bind, Except.bind])
  · have hpass := h.checkConfigure hlapsed hm
    rcases hc with rfl | rfl | rfl | rfl
    · exact State.happen_refused h hs (performSetPinRest_refuses hpass hr)
    · exact State.happen_refused h hs (performSetCarrier_refuses hpass hr)
    · exact State.happen_refused h hs (performSetFaultEdge_refuses hpass hr)
    · exact State.happen_refused h hs (performSetSupplyLevel_refuses hpass hr)

/-- READ FAULTS and the queries that take a number refuse one that is out of range (R21, R22, R66, R117, R142). -/
theorem State.refuses_of_number (h : s.Serves c l ps n r) (hs : s.Settled)
    (hr : (c = .readFaults ∧ 8 ≤ arg ps 1) ∨ (c = .querySession ∧ 8 ≤ arg ps 1) ∨ (c = .listLeases ∧ 8 ≤ arg ps 1)
      ∨ (c = .queryTimebase ∧ 4 ≤ arg ps 1) ∨ (c = .findByPin ∧ 24 ≤ arg ps 1)) :
    s.Refuses c l n r .badArgument 0xFF := by
  obtain ⟨rfl, hnum⟩ | ⟨rfl, hnum⟩ | ⟨rfl, hnum⟩ | ⟨rfl, hnum⟩ | ⟨rfl, hnum⟩ := hr
  · have hmask : SourceSet.ofClearMask (arg ps 1) = none := by rw [SourceSet.ofClearMask, if_neg (by omega)]
    exact State.happen_refused h hs (perform := performReadFaults)
      (by simp only [performReadFaults, hmask, need_none, bind, Except.bind])
  · exact State.happen_refused h hs (perform := performQuerySession)
      (by simp only [performQuerySession, need_indexOf_error hnum, bind, Except.bind])
  · exact State.happen_refused h hs (perform := performListLeases)
      (by simp only [performListLeases, need_indexOf_error hnum, bind, Except.bind])
  · exact State.happen_refused h hs (perform := performQueryTimebase)
      (by simp only [performQueryTimebase, need_indexOf_error hnum, bind, Except.bind])
  · exact State.happen_refused h hs (perform := performFindByPin)
      (by simp only [performFindByPin, need_indexOf_error hnum, bind, Except.bind])

/-- Settles O25, by the group of the command's own checks: the lease guard, the steps of AMEND, those of RETUNE, the
configuration commands, the halts and the numbers of the queries. -/
theorem ownChecksRefuseInOrder : Obligations.OwnChecksRefuseInOrder := by
  unfold Obligations.OwnChecksRefuseInOrder
  intro s c l ps n r status detail h hs hr
  obtain hguard | ⟨rfl, hamend⟩ | ⟨rfl, hretune⟩ | ⟨hc, hconfigure⟩ | ⟨hc, hcls, rfl, rfl⟩ | ⟨hnum, rfl, rfl⟩ := hr
  · exact State.refuses_of_guard h hs hguard
  · exact State.happen_refused h hs (performAmend_refuses h hamend)
  · exact State.happen_refused h hs (performRetune_refuses h hretune)
  · exact State.refuses_of_configuration h hs hc hconfigure
  · have hfail := h.checkSupervisor_error (by rw [hcls]; exact nofun)
    obtain rfl | rfl := hc
    · exact State.happen_refused h hs (perform := performHaltAll)
        (by simp only [performHaltAll, hfail, bind, Except.bind])
    · exact State.happen_refused h hs (perform := performReleaseHalt)
        (by simp only [performReleaseHalt, hfail, bind, Except.bind])
  · exact State.refuses_of_number h hs hnum

end Sys2Proof.Machine
end

section
/-! A boundary of a timebase (R53 to R58): the moves of its leases and their engines, the notices of those moves, and the
teardown of the leases whose drains end. -/

namespace Sys2Proof.Machine

variable {s : State} {tb : TimebaseNo} {x : TimebaseRun}

/-! ## One lease record -/

theorem LeaseRecord.drainEnds_iff (r : LeaseRecord) : r.drainEnds = true ↔ r.DrainEnds := by
  unfold LeaseRecord.drainEnds LeaseRecord.DrainEnds LeaseRecord.allZero
  cases hp : r.phase with
  | draining plan => cases plan <;> simp
  | _ => simp

theorem endsDrain_iff {l : Lease} : endsDrain l tb = true ↔ ∃ r, l = some r ∧ r.timebase = tb ∧ r.DrainEnds := by
  cases l <;> simp [endsDrain, LeaseRecord.drainEnds_iff]

theorem commitBindings_eq_zipWith {bs : List Binding} {staged : List Settings} (h : staged.length = bs.length) :
    commitBindings bs staged = List.zipWith (fun b st => { b with active := st }) bs staged := by
  refine List.ext_getElem? fun i => ?_
  rw [getElem?_commitBindings, List.getElem?_zipWith]
  by_cases hi : i < bs.length
  · rw [List.getElem?_eq_getElem hi, List.getElem?_eq_getElem (h ▸ hi)]
    rfl
  · rw [List.getElem?_eq_none (not_lt.1 hi)]
    rfl

/-- A boundary that does not end a lease's drain moves its record as the lease's state gives (R54 to R58). -/
theorem LeaseRecord.isMoved_atBoundary {r : LeaseRecord} (hs : r.Shaped) (hd : ¬ r.DrainEnds) : r.IsMoved r.atBoundary := by
  obtain ⟨-, -, hshape⟩ := hs
  unfold LeaseRecord.IsMoved LeaseRecord.atBoundary
  cases hp : r.phase with
  | amendPending staged =>
    rw [hp] at hshape
    simp only [commitBindings_eq_zipWith hshape]
  | draining plan =>
    cases plan with
    | atBoundary => exact absurd (.inl hp) hd
    | ramp step => rfl
  | _ => rfl

theorem LeaseRecord.boundaryNotices_boundaryKinds (r : LeaseRecord) (retunes : Bool) :
    r.BoundaryNotices retunes (r.boundaryKinds retunes) := by
  refine ⟨rfl, ?_, rfl, rfl, r.drainEnds_iff, rfl⟩
  simp only [LeaseRecord.boundaryKinds]
  cases r.phase <;> simp

/-! ## One engine -/

/-- An engine of a bound lease after a boundary, its output left aside, is what the lease's state gives (R54, R55, R57, R87,
R88, R92). -/
theorem Engine.bare_atBoundary {e : Engine} {u : EngineUse} (hu : e.use? = some u) (r : LeaseRecord) (period : Nat) :
    ((e.atBoundary r).updateEdges period).bare = e.movedBare u r period := by
  cases e with
  | unused => cases hu
  | held v =>
    obtain rfl : v = u := Option.some.inj hu
    unfold Engine.movedBare Engine.atBoundary EngineUse.atBoundary
    cases hp : r.phase with
    | armed => simp only [Engine.updateEdges_generating, Engine.bare, true_or, if_true]
    | draining plan => cases plan <;> rfl
    | _ => rfl
  | generating v d o =>
    obtain rfl : v = u := Option.some.inj hu
    rw [Engine.movedBare, if_pos (.inr rfl)]
    unfold Engine.atBoundary EngineUse.atBoundary
    cases hp : r.phase with
    | draining plan => cases plan <;> simp only [Engine.mapUse, Engine.updateEdges_generating, Engine.bare, Settings.ramped]
    | _ => simp only [Engine.mapUse, Engine.updateEdges_generating, Engine.bare]

theorem Engine.eq_unused_of_bare {e : Engine} (h : e.bare = .unused) : e = .unused := by
  cases e <;> simp [Engine.bare] at h ⊢

theorem Engine.place?_eq_map_use? (e : Engine) : e.place? = e.use?.map EngineUse.place := by cases e <;> rfl

/-- The engines after a boundary's moves: one of a lease bound to the timebase moves with its lease, and every other is as
before. -/
theorem State.engines_moveBoundary_of_use {c : ChannelNo} {u : EngineUse} (hu : s.engines[c].use? = some u) :
    (s.moveBoundary tb x).engines[c] = boundaryEngine s.leases[u.place.lease] tb x.coming s.engines[c] := by
  have hlease : s.engines[c].lease? = some u.place.lease := by
    rw [Engine.lease?_eq, Engine.place?_eq_map_use?, hu]
    rfl
  rw [State.engines_moveBoundary, Fin.getElem_fin, State.engines_mapEngines, ← Fin.getElem_fin, hlease]

theorem State.engines_moveBoundary_unused {c : ChannelNo} (hu : s.engines[c] = .unused) :
    (s.moveBoundary tb x).engines[c] = .unused := by
  rw [State.engines_moveBoundary, Fin.getElem_fin, State.engines_mapEngines, ← Fin.getElem_fin, hu]
  rfl

theorem boundaryEngine_of_bound {l : Lease} {r : LeaseRecord} (hl : l = some r) (hr : r.timebase = tb) (period : Nat)
    (e : Engine) : boundaryEngine l tb period e = (e.atBoundary r).updateEdges period := by
  rw [hl]
  exact if_pos hr

theorem boundaryEngine_of_not_bound {l : Lease} (h : boundTo l tb = false) (period : Nat) (e : Engine) :
    boundaryEngine l tb period e = e := by
  cases l with
  | none => rfl
  | some r => exact if_neg (by simpa [boundTo] using h)

/-! ## The tables of the part -/

theorem State.wavesKept_moveBoundary (s : State) (tb : TimebaseNo) (x : TimebaseRun) : s.WavesKept (s.moveBoundary tb x) :=
  fun c => by
    have hcarrier : (s.moveBoundary tb x).carrier c = (s.setLeases (boundaryLeases s.leases tb)).carrier c := by
      cases c <;> rfl
    rw [hcarrier]
    exact s.wavesKept_setLeases _ c

theorem State.leases_moveBoundary_free {k : LeaseNo} (h0 : s.leases[k] = none) : (s.moveBoundary tb x).leases[k] = none := by
  rw [Fin.getElem_fin] at h0
  simp [h0]

theorem State.leases_moveBoundary_of_bound {k : LeaseNo} {r : LeaseRecord} (hr : s.leases[k] = some r) (htb : r.timebase = tb) :
    (s.moveBoundary tb x).leases[k] = some r.atBoundary := by
  rw [Fin.getElem_fin] at hr
  simp [hr, htb]

theorem State.leases_moveBoundary_of_other {k : LeaseNo} {r : LeaseRecord} (hr : s.leases[k] = some r) (htb : r.timebase ≠ tb) :
    (s.moveBoundary tb x).leases[k] = some r := by
  rw [Fin.getElem_fin] at hr
  simp [hr, htb]

/-- The kinds that recorded notices leave in the sessions are those of the leases each one holds (R145). -/
theorem State.noticesRecorded {t : State} {kinds : LeaseNo → KindSet} (h : t.sessions = (s.recordNotices kinds).sessions) :
    s.NoticesRecorded t kinds := by
  intro n
  have hn : t.sessions[n] = s.sessions[n].map fun r => r.recorded n s.leases kinds := by
    rw [h, Fin.getElem_fin, State.sessions_recordNotices]
    rfl
  refine ⟨fun h0 => by rw [hn, h0]; rfl, fun r hr => ?_⟩
  refine ⟨r.recorded n s.leases kinds, by rw [hn, hr]; rfl, ?_, fun k => ?_⟩
  · simp only [SessionRecord.recorded]
  · simp [SessionRecord.recorded]

/-- A happening that takes a boundary takes it whole, and ends with the outputs brought up to date. -/
theorem State.exec_of_takesBoundary {i : Instr} (h : s.TakesBoundary i tb x) :
    exec i s = .next (s.takeBoundary tb x).refresh := by
  obtain ⟨hheld, hrun, ⟨rfl, hstart⟩ | ⟨rfl | rfl, hstart, hzero⟩⟩ := h
  · rw [exec, execStartBoundary, State.happen_free _ hheld, hrun]
    simp only [hstart, if_true]
  · rw [exec, execBoundary, State.happen_free _ hheld, hrun]
    simp only [hstart, Bool.false_eq_true, if_false, hzero, if_true]
  · rw [exec, execCount, State.happen_free _ hheld, hrun]
    simp only [hstart, Bool.false_eq_true, if_false, hzero, if_true]

/-- After its moves, a boundary tears down the leases whose drains end (R16, R56, R57). -/
theorem State.tornDown_takeBoundary {i : Instr} (h : s.TakesBoundary i tb x) (hs : s.CountsAgree) :
    (s.moveBoundary tb x).TornDown (s.takeBoundary tb x).refresh fun n => endsDrain s.leases[n] tb := by
  obtain ⟨-, hrun, hdue⟩ := h
  have hmove : State.TableMove s (s.moveBoundary tb x) :=
    .boundary hrun (hdue.imp (fun h => h.2) fun h => h.2.2)
  exact State.tornDown_refresh (hmove.countsAgree hs) rfl rfl rfl rfl rfl rfl rfl

theorem endsDrain_of_drainEnds {l : Lease} {r : LeaseRecord} (hr : l = some r) (htb : r.timebase = tb) (hd : r.DrainEnds) :
    endsDrain l tb = true := endsDrain_iff.2 ⟨r, hr, htb, hd⟩

theorem endsDrain_of_not {l : Lease} {r : LeaseRecord} (hr : l = some r) (h : ¬ (r.timebase = tb ∧ r.DrainEnds)) :
    endsDrain l tb = false := by
  rw [← Bool.not_eq_true, endsDrain_iff]
  rintro ⟨r', hr', hyes⟩
  obtain rfl : r = r' := Option.some.inj (hr.symm.trans hr')
  exact h hyes

theorem endsDrain_of_not_bound {l : Lease} (h : boundTo l tb = false) : endsDrain l tb = false := by
  cases l with
  | none => rfl
  | some r => exact endsDrain_of_not rfl fun hyes => by simp [boundTo, hyes.1] at h

section
variable {t : State} (h : (s.moveBoundary tb x).TornDown t fun n => endsDrain s.leases[n] tb)
include h

/-- What a boundary leaves of a lease: nothing where its drain ends, else its record as moved, or as it is where the lease is
bound to another timebase (R54 to R58). -/
theorem State.leases_after_boundary (hs : s.LeasesShaped) (k : LeaseNo) :
    (s.leases[k] = none → t.leases[k] = none) ∧ ∀ r, s.leases[k] = some r →
      (r.timebase ≠ tb → t.leases[k] = some r)
      ∧ (r.timebase = tb → (r.DrainEnds → t.leases[k] = none)
        ∧ (¬ r.DrainEnds → ∃ r', t.leases[k] = some r' ∧ r.IsMoved r')) := by
  rw [h.leases k]
  refine ⟨fun h0 => ?_, fun r hr => ⟨fun htb => ?_, fun htb => ⟨fun hd => ?_, fun hd => ?_⟩⟩⟩
  · rw [State.leases_moveBoundary_free h0, ite_self]
  · rw [endsDrain_of_not hr fun hyes => htb hyes.1, State.leases_moveBoundary_of_other hr htb]
    rfl
  · rw [endsDrain_of_drainEnds hr htb hd]
    rfl
  · rw [endsDrain_of_not hr fun hyes => hd hyes.2, State.leases_moveBoundary_of_bound hr htb]
    exact ⟨_, rfl, LeaseRecord.isMoved_atBoundary (leaseHas_iff.1 (hs k) r hr) hd⟩

/-- The leases that a boundary frees are the bound ones that are gone after it. -/
theorem State.freed_by_boundary (k : LeaseNo) :
    endsDrain s.leases[k] tb = (boundTo s.leases[k] tb && t.leases[k].isNone) := by
  cases hbound : boundTo s.leases[k] tb with
  | false => rw [endsDrain_of_not_bound hbound, Bool.false_and]
  | true =>
    obtain ⟨r, hr, htb⟩ := boundTo_iff.1 hbound
    rw [Bool.true_and, h.leases k, State.leases_moveBoundary_of_bound hr htb]
    cases endsDrain s.leases[k] tb <;> rfl

/-- What a boundary leaves of an engine: nothing where its lease's drain ends, else the engine as its lease's state moves it,
or as it is where its lease is not bound to the timebase (R54 to R57, R88, R92). -/
theorem State.engines_after_boundary (c : ChannelNo) :
    (s.engines[c] = .unused → t.engines[c] = .unused) ∧ ∀ u, s.engines[c].use? = some u →
      (boundTo s.leases[u.place.lease] tb = false → t.engines[c].bare = s.engines[c].bare)
      ∧ ∀ r, s.leases[u.place.lease] = some r → r.timebase = tb →
        (r.DrainEnds → t.engines[c] = .unused)
        ∧ (¬ r.DrainEnds → t.engines[c].bare = s.engines[c].movedBare u r x.coming) := by
  have hbare := h.engines c
  refine ⟨fun h0 => ?_, fun u hu => ?_⟩
  · rw [State.engines_moveBoundary_unused h0] at hbare
    exact Engine.eq_unused_of_bare hbare
  have hplace : (boundaryEngine s.leases[u.place.lease] tb x.coming s.engines[c]).place? = some u.place := by
    rw [Engine.place?_boundaryEngine, Engine.place?_eq_map_use?, hu]
    rfl
  rw [State.engines_moveBoundary_of_use hu, hplace, Option.any_some] at hbare
  refine ⟨fun hother => ?_, fun r hr htb => ⟨fun hd => ?_, fun hd => ?_⟩⟩
  · rw [endsDrain_of_not_bound hother, boundaryEngine_of_not_bound hother] at hbare
    exact hbare
  · rw [endsDrain_of_drainEnds hr htb hd] at hbare
    exact Engine.eq_unused_of_bare hbare
  · rw [endsDrain_of_not hr fun hyes => hd hyes.2, boundaryEngine_of_bound hr htb] at hbare
    exact hbare.trans (Engine.bare_atBoundary hu r x.coming)

theorem State.channels_after_boundary (c : ChannelNo) : t.channels[c]
    = if s.channels[c].any (fun p => boundTo s.leases[p.lease] tb && t.leases[p.lease].isNone) then none
      else s.channels[c] := by
  rw [h.channels c]
  simp only [State.freed_by_boundary h]
  rfl

theorem State.pins_after_boundary (p : PinNo) : t.pins[p].rest = s.pins[p].rest ∧ t.pins[p].owner
    = if s.pins[p].owner.any (fun o => boundTo s.leases[o.place.lease] tb && t.leases[o.place.lease].isNone) then none
      else s.pins[p].owner := by
  obtain ⟨hrest, howner⟩ := h.pins p
  simp only [State.freed_by_boundary h] at howner
  exact ⟨hrest, howner⟩

theorem State.wavesKept_after_boundary : s.WavesKept t := fun c =>
  ⟨(h.waves c).1.trans (s.wavesKept_moveBoundary tb x c).1, (h.waves c).2.trans (s.wavesKept_moveBoundary tb x c).2⟩

end

/-- The kinds that a boundary records for a lease are its notices, and none for a lease of another timebase. -/
theorem boundaryKindsOf_of_bound {l : Lease} {r : LeaseRecord} (hr : l = some r) (htb : r.timebase = tb) (retunes : Bool) :
    r.BoundaryNotices retunes (boundaryKindsOf l tb retunes) := by
  rw [hr, boundaryKindsOf, if_pos htb]
  exact r.boundaryNotices_boundaryKinds retunes

theorem boundaryKindsOf_of_other {l : Lease} {r : LeaseRecord} (hr : l = some r) (htb : r.timebase ≠ tb) (retunes : Bool) :
    boundaryKindsOf l tb retunes = KindSet.empty := by
  rw [hr, boundaryKindsOf, if_neg htb]

/-- Settles O32: the moves reach each lease and engine as its lease's state says, and the teardown after them frees the
leases whose drains end. -/
theorem boundaryMovesItsLeases : Obligations.BoundaryMovesItsLeases := by
  unfold Obligations.BoundaryMovesItsLeases
  intro s i tb x h hcounts hshaped
  have htorn := State.tornDown_takeBoundary h hcounts
  refine ⟨_, fun k => boundaryKindsOf s.leases[k] tb x.staged.isSome, State.exec_of_takesBoundary h, fun k => ?_, ?_,
    State.channels_after_boundary htorn, State.engines_after_boundary htorn, State.pins_after_boundary htorn,
    State.wavesKept_after_boundary htorn, htorn.uses, ?_, ?_, ?_, State.settled_refresh _⟩
  · obtain ⟨hfree, hlease⟩ := State.leases_after_boundary htorn hshaped k
    refine ⟨hfree, fun r hr => ⟨fun htb => ?_, fun htb => ?_⟩⟩
    · exact ⟨(hlease r hr).1 htb, boundaryKindsOf_of_other hr htb _⟩
    · exact ⟨boundaryKindsOf_of_bound hr htb _, (hlease r hr).2 htb⟩
  · exact State.noticesRecorded (by simp [State.takeBoundary_eq, State.moveBoundary])
  · constructor <;> simp [State.takeBoundary_eq, State.moveBoundary]
  · refine State.linksKept_of_kept ?_ ?_ ?_ ?_ ?_ ?_ <;> simp [State.takeBoundary_eq, State.moveBoundary]
  · simp [State.takeBoundary_eq, State.moveBoundary, h.1]

end Sys2Proof.Machine
end

section
/-! The allocation of channels (R35, R36): each of its two passes is greedy, so that every binding of the pass's kind holds
the lowest channel that the earlier ones leave, and a pass fails at the first binding that they leave none. -/

namespace Sys2Proof.Machine

/-! ## One pass over the bindings of a kind -/

/-- A binding of a kind can be placed on a channel of those left: on an even one with its odd partner where it is
complementary. -/
def FitsOn (k : Bool) (left : List ChannelNo) (c : ChannelNo) : Prop :=
  (k = true → c.val % 2 = 0) ∧ ∀ d ∈ takenChannels k c, d ∈ left

/-- The binding `i` of a pass can be placed on a channel, those of the earlier ones of its kind taken away. -/
def OpenTo (k : Bool) (free : List ChannelNo) (kinds : List Bool) (f : Nat → ChannelNo) (i : Nat) (c : ChannelNo) : Prop :=
  FitsOn k free c ∧ ∀ j, j < i → kinds[j]? = some k → f j ≠ c

/-- The bindings of a kind below an index each hold the lowest channel open to them. -/
def LowestTaken (k : Bool) (free : List ChannelNo) (kinds : List Bool) (f : Nat → ChannelNo) (below : Nat) : Prop :=
  ∀ i, i < below → kinds[i]? = some k → IsLowestChannel (OpenTo k free kinds f i) (f i)

/-- What a pass from index `i` on answers: each binding of the kind with the lowest channel open to it, or the first one
that has none. -/
def PassAnswers (k : Bool) (i : Nat) (kinds : List Bool) (free : List ChannelNo) :
    Except Nat (List (Nat × ChannelNo)) → Prop
  | .ok placed => ∃ f, LowestTaken k free kinds f kinds.length
      ∧ ∀ x, x ∈ placed ↔ ∃ j, kinds[j]? = some k ∧ x = (i + j, f j)
  | .error m => ∃ f j, m = i + j ∧ kinds[j]? = some k ∧ LowestTaken k free kinds f j ∧ ∀ c, ¬ OpenTo k free kinds f j c

variable {k k' : Bool} {i : Nat} {kinds : List Bool} {free left : List ChannelNo}

theorem mem_takenChannels_self (k : Bool) (c : ChannelNo) : c ∈ takenChannels k c := by cases k <;> simp [takenChannels]

/-- Pairs that start at even channels meet only where they are one pair. -/
theorem taken_apart_iff {c d : ChannelNo} (hc : k = true → c.val % 2 = 0) (hd : k = true → d.val % 2 = 0) :
    (∀ e ∈ takenChannels k d, e ∉ takenChannels k c) ↔ c ≠ d := by
  revert k c d
  decide

/-- Once a channel is taken, a later binding of the kind fits on the others that it fitted on before. -/
theorem fitsOn_left {c : ChannelNo} (hc : FitsOn k free c) (hleft : ∀ d, d ∈ left ↔ d ∈ free ∧ d ∉ takenChannels k c)
    (d : ChannelNo) : FitsOn k left d ↔ FitsOn k free d ∧ c ≠ d := by
  simp only [FitsOn, hleft, forall_and, and_assoc]
  constructor
  · rintro ⟨heven, hfree, hapart⟩
    exact ⟨heven, hfree, (taken_apart_iff hc.1 heven).1 hapart⟩
  · rintro ⟨heven, hfree, hne⟩
    exact ⟨heven, hfree, (taken_apart_iff hc.1 heven).2 hne⟩

/-- After its first binding a pass goes on with the channels left. -/
theorem openTo_cons {f : Nat → ChannelNo} (h : ∀ d, FitsOn k left d ↔ FitsOn k free d ∧ (k' = k → f 0 ≠ d)) (d : ChannelNo) :
    OpenTo k free (k' :: kinds) f (i + 1) d ↔ OpenTo k left kinds (fun j => f (j + 1)) i d := by
  simp only [OpenTo, h, Nat.forall_lt_succ_left, List.getElem?_cons_zero, List.getElem?_cons_succ, Option.some.injEq,
    and_assoc]

theorem lowestTaken_cons {f : Nat → ChannelNo} (h : ∀ d, FitsOn k left d ↔ FitsOn k free d ∧ (k' = k → f 0 ≠ d)) :
    LowestTaken k free (k' :: kinds) f (i + 1) ↔ (k' = k → IsLowestChannel (FitsOn k free) (f 0))
      ∧ LowestTaken k left kinds (fun j => f (j + 1)) i := by
  have hfirst : OpenTo k free (k' :: kinds) f 0 = FitsOn k free := funext fun d => by simp [OpenTo]
  have hlater : ∀ j, OpenTo k free (k' :: kinds) f (j + 1) = OpenTo k left kinds (fun j => f (j + 1)) j :=
    fun j => funext fun d => propext (openTo_cons h d)
  simp only [LowestTaken, Nat.forall_lt_succ_left, List.getElem?_cons_zero, List.getElem?_cons_succ, Option.some.injEq,
    hfirst, hlater]

/-- The channels of a pass, the first binding's put before those of the later ones. -/
def withFirst (c : ChannelNo) (f : Nat → ChannelNo) : Nat → ChannelNo
  | 0 => c
  | j + 1 => f j

theorem passAnswers_nil : PassAnswers k i [] free (.ok []) := ⟨fun _ => 0, by simp [LowestTaken], by simp⟩

theorem passAnswers_stuck (h : ∀ c, ¬ FitsOn k free c) : PassAnswers k i (k :: kinds) free (.error i) :=
  ⟨fun _ => 0, 0, rfl, rfl, by simp [LowestTaken], fun c hc => h c hc.1⟩

/-- A binding of the other kind is passed over. -/
theorem PassAnswers.skip {r : Except Nat (List (Nat × ChannelNo))} (h : PassAnswers k (i + 1) kinds free r) (hk : k' ≠ k) :
    PassAnswers k i (k' :: kinds) free r := by
  have hfits : ∀ (f : Nat → ChannelNo) d, FitsOn k free d ↔ FitsOn k free d ∧ (k' = k → withFirst 0 f 0 ≠ d) := by simp [hk]
  cases r with
  | ok placed =>
    obtain ⟨f, hlow, hmem⟩ := h
    refine ⟨withFirst 0 f, (lowestTaken_cons (hfits f)).2 ⟨fun heq => absurd heq hk, hlow⟩, fun x => ?_⟩
    rw [← Nat.or_exists_add_one, hmem]
    simp [hk, withFirst, Nat.add_right_comm, ← Nat.add_assoc]
  | error m =>
    obtain ⟨f, j, rfl, hj, hlow, hnone⟩ := h
    exact ⟨withFirst 0 f, j + 1, by omega, hj, (lowestTaken_cons (hfits f)).2 ⟨fun heq => absurd heq hk, hlow⟩,
      fun c hc => hnone c ((openTo_cons (hfits f) c).1 hc)⟩

/-- A binding of the kind takes the lowest channel that it fits on, and the pass goes on with the channels left. -/
theorem PassAnswers.place {r : Except Nat (List (Nat × ChannelNo))} {c : ChannelNo} (h : PassAnswers k (i + 1) kinds left r)
    (hc : IsLowestChannel (FitsOn k free) c) (hleft : ∀ d, d ∈ left ↔ d ∈ free ∧ d ∉ takenChannels k c) :
    PassAnswers k i (k :: kinds) free (r.map ((i, c) :: ·)) := by
  have hfits : ∀ (f : Nat → ChannelNo) d, FitsOn k left d ↔ FitsOn k free d ∧ (k = k → withFirst c f 0 ≠ d) := fun f d => by
    simpa [withFirst] using fitsOn_left hc.1 hleft d
  cases r with
  | ok placed =>
    obtain ⟨f, hlow, hmem⟩ := h
    refine ⟨withFirst c f, (lowestTaken_cons (hfits f)).2 ⟨fun _ => hc, hlow⟩, fun x => ?_⟩
    rw [← Nat.or_exists_add_one, List.mem_cons, hmem]
    simp [withFirst, Nat.add_right_comm, ← Nat.add_assoc]
  | error m =>
    obtain ⟨f, j, rfl, hj, hlow, hnone⟩ := h
    exact ⟨withFirst c f, j + 1, by omega, hj, (lowestTaken_cons (hfits f)).2 ⟨fun _ => hc, hlow⟩,
      fun d hd => hnone d ((openTo_cons (hfits f) d).1 hd)⟩

/-! ## The two passes -/

/-- The first entry of an ascending list that passes a test is the lowest that does. -/
theorem isLowest_of_find? {l : List ChannelNo} (hl : l.Pairwise (· < ·)) {p : ChannelNo → Bool} {c : ChannelNo}
    (h : l.find? p = some c) : IsLowestChannel (fun d => d ∈ l ∧ p d = true) c := by
  obtain ⟨hp, before, after, rfl, hbefore⟩ := List.find?_eq_some_iff_append.1 h
  refine ⟨⟨by simp, hp⟩, fun d hd ⟨hmem, hpd⟩ => ?_⟩
  obtain ⟨-, hafter, -⟩ := List.pairwise_append.1 hl
  rcases List.mem_append.1 hmem with hmem | hmem
  · simpa [hpd] using hbefore d hmem
  · rcases List.mem_cons.1 hmem with rfl | hmem
    · exact absurd hd (lt_irrefl _)
    · exact absurd hd (lt_asymm ((List.pairwise_cons.1 hafter).1 d hmem))

theorem fitsOn_pair (c : ChannelNo) : FitsOn true free c
    ↔ c ∈ free ∧ (c.val % 2 == 0 && free.contains (oddPartner c)) = true := by
  simp [FitsOn, takenChannels]
  tauto

theorem fitsOn_single (c : ChannelNo) : FitsOn false free c ↔ c ∈ free := by simp [FitsOn, takenChannels]

theorem lowestPair_eq_some (hfree : free.Pairwise (· < ·)) {c : ChannelNo} (h : lowestPair free = some c) :
    IsLowestChannel (FitsOn true free) c := by
  simpa only [← fitsOn_pair] using isLowest_of_find? hfree h

theorem lowestPair_eq_none (h : lowestPair free = none) (c : ChannelNo) : ¬ FitsOn true free c := fun hc => by
  obtain ⟨hmem, hpair⟩ := (fitsOn_pair c).1 hc
  exact List.find?_eq_none.1 h c hmem hpair

/-- Pass 1 gives each complementary binding the lowest pair that the earlier ones leave. -/
theorem placePairs_answers (hfree : free.Pairwise (· < ·)) :
    PassAnswers true i kinds free ((placePairs i kinds free).map Prod.fst) := by
  induction kinds generalizing i free with
  | nil => exact passAnswers_nil
  | cons k kinds ih =>
    cases k with
    | false => exact (ih hfree).skip (by simp)
    | true =>
      simp only [placePairs]
      cases hc : lowestPair free with
      | none => exact passAnswers_stuck (lowestPair_eq_none hc)
      | some c =>
        have hrest := (ih (i := i + 1) (hfree.filter fun x => x != c && x != oddPartner c)).place
          (lowestPair_eq_some hfree hc) fun d => by simp [takenChannels]
        revert hrest
        dsimp only
        cases placePairs (i + 1) kinds (free.filter fun x => x != c && x != oddPartner c) <;> exact id

/-- Pass 1 leaves every channel that no pair takes. -/
theorem mem_left_of_placePairs {placed : List (Nat × ChannelNo)} (h : placePairs i kinds free = .ok (placed, left))
    (d : ChannelNo) : d ∈ left ↔ d ∈ free ∧ ∀ x ∈ placed, d ∉ takenChannels true x.2 := by
  induction kinds generalizing i free placed with
  | nil =>
    simp only [placePairs, Except.ok.injEq, Prod.mk.injEq] at h
    obtain ⟨rfl, rfl⟩ := h
    simp
  | cons k kinds ih =>
    cases k with
    | false => exact ih (by simpa only [placePairs] using h)
    | true =>
      simp only [placePairs] at h
      split at h
      · cases h
      split at h
      · cases h
      rename_i rest left' hrest
      simp only [Except.ok.injEq, Prod.mk.injEq] at h
      obtain ⟨rfl, rfl⟩ := h
      rw [ih hrest]
      simp [takenChannels, and_assoc]

/-- Pass 2 gives each single binding the lowest channel that the earlier ones leave. -/
theorem placeSingles_answers (hfree : free.Pairwise (· < ·)) : PassAnswers false i kinds free (placeSingles i kinds free) := by
  induction kinds generalizing i free with
  | nil => exact passAnswers_nil
  | cons k kinds ih =>
    cases k with
    | true => exact (ih hfree).skip (by simp)
    | false =>
      cases free with
      | nil => exact passAnswers_stuck fun c hc => by simpa using (fitsOn_single c).1 hc
      | cons c left =>
        obtain ⟨hlow, hleft⟩ := List.pairwise_cons.1 hfree
        have hc : IsLowestChannel (FitsOn false (c :: left)) c := by
          refine ⟨(fitsOn_single c).2 (by simp), fun d hd hfit => ?_⟩
          rcases List.mem_cons.1 ((fitsOn_single d).1 hfit) with rfl | hmem
          · exact absurd hd (lt_irrefl _)
          · exact absurd hd (lt_asymm (hlow d hmem))
        have hrest := (ih (i := i + 1) hleft).place hc fun d => by
          have hne : d ∈ left → d ≠ c := fun hmem heq => absurd (hlow d hmem) (heq ▸ lt_irrefl _)
          simp only [takenChannels, Bool.false_eq_true, if_false, List.mem_cons, List.not_mem_nil, or_false]
          tauto
        revert hrest
        simp only [placeSingles]
        cases placeSingles (i + 1) kinds left <;> exact id

/-! ## Both passes over a channel map -/

section passes

variable {map : Vector (Option Place) 12} {f g : Nat → ChannelNo} {n : Nat}

theorem mem_freeChannels (c : ChannelNo) : c ∈ freeChannels map ↔ map[c] = none := by
  simp [freeChannels]

theorem freeChannels_ascending : (freeChannels map).Pairwise (· < ·) := (List.pairwise_lt_finRange 12).filter _

theorem openTo_iff_pairFree (hf : ∀ j, kinds[j]? = some true → f j = g j) (c : ChannelNo) :
    OpenTo true (freeChannels map) kinds g i c ↔ PairFree map kinds f i c := by
  have hearlier : (∀ j, j < i → kinds[j]? = some true → f j ≠ c) ↔ ∀ j, j < i → kinds[j]? = some true → g j ≠ c :=
    forall_congr' fun j => forall_congr' fun _ => forall_congr' fun hj => by rw [hf j hj]
  rw [PairFree, hearlier, OpenTo, fitsOn_pair, mem_freeChannels]
  simp [mem_freeChannels, oddPartner, -Fin.getElem_fin]
  tauto

theorem openTo_iff_singleFree
    (hleft : ∀ d, d ∈ left ↔ map[d] = none ∧ ∀ j, kinds[j]? = some true → d ∉ takenChannels true (f j))
    (hf : ∀ j, kinds[j]? = some false → f j = g j) (c : ChannelNo) :
    OpenTo false left kinds g i c ↔ SingleFree map kinds f i c := by
  have hearlier : (∀ j, j < i → kinds[j]? = some false → f j ≠ c) ↔ ∀ j, j < i → kinds[j]? = some false → g j ≠ c :=
    forall_congr' fun j => forall_congr' fun _ => forall_congr' fun hj => by rw [hf j hj]
  rw [SingleFree, hearlier, OpenTo, fitsOn_single, hleft]
  simp [takenChannels, oddPartner, and_assoc, eq_comm, -Fin.getElem_fin]

theorem pairsPlaced_of_lowestTaken (h : LowestTaken true (freeChannels map) kinds g n)
    (hf : ∀ j, kinds[j]? = some true → f j = g j) : PairsPlaced map kinds f n := fun j hj hk => by
  have hopen : OpenTo true (freeChannels map) kinds g j = PairFree map kinds f j :=
    funext fun c => propext (openTo_iff_pairFree hf c)
  rw [hf j hk, ← hopen]
  exact h j hj hk

theorem singlesPlaced_of_lowestTaken (h : LowestTaken false left kinds g n)
    (hleft : ∀ d, d ∈ left ↔ map[d] = none ∧ ∀ j, kinds[j]? = some true → d ∉ takenChannels true (f j))
    (hf : ∀ j, kinds[j]? = some false → f j = g j) : SinglesPlaced map kinds f n := fun j hj hk => by
  have hopen : OpenTo false left kinds g j = SingleFree map kinds f j :=
    funext fun c => propext (openTo_iff_singleFree hleft hf c)
  rw [hf j hk, ← hopen]
  exact h j hj hk

/-- What pass 1 leaves, read from the map and the channels of the pairs. -/
theorem mem_left_iff {pairs : List (Nat × ChannelNo)} (h : placePairs 0 kinds (freeChannels map) = .ok (pairs, left))
    (hpairs : ∀ x, x ∈ pairs ↔ ∃ j, kinds[j]? = some true ∧ x = (0 + j, g j)) (hf : ∀ j, kinds[j]? = some true → f j = g j)
    (d : ChannelNo) : d ∈ left ↔ map[d] = none ∧ ∀ j, kinds[j]? = some true → d ∉ takenChannels true (f j) := by
  rw [mem_left_of_placePairs h, mem_freeChannels]
  refine and_congr_right fun _ => ⟨fun hnot j hj => ?_, fun hnot x hx => ?_⟩
  · rw [hf j hj]
    exact hnot _ ((hpairs _).2 ⟨j, hj, rfl⟩)
  · obtain ⟨j, hj, rfl⟩ := (hpairs x).1 hx
    rw [← hf j hj]
    exact hnot j hj

/-- A binding's channel is the one that the pass over its kind placed. -/
theorem placedAt_eq {pass other : List (Nat × ChannelNo)} {j : Nat} (hj : kinds[j]? = some k)
    (hpass : ∀ x, x ∈ pass ↔ ∃ m, kinds[m]? = some k ∧ x = (0 + m, f m))
    (hother : ∀ x ∈ other, ∃ m, kinds[m]? = some (!k) ∧ x = (0 + m, g m)) {placed : List (Nat × ChannelNo)}
    (hplaced : ∀ x, x ∈ placed ↔ x ∈ pass ∨ x ∈ other) : placedAt placed j = f j := by
  have hmem : (j, f j) ∈ placed := (hplaced _).2 (.inl ((hpass _).2 ⟨j, hj, by rw [Nat.zero_add]⟩))
  rcases (hplaced _).1 (placedAt_mem hmem) with h | h
  · obtain ⟨m, -, heq⟩ := (hpass _).1 h
    rw [Nat.zero_add, Prod.mk.injEq] at heq
    rw [heq.2, heq.1]
  · obtain ⟨m, hm, heq⟩ := hother _ h
    rw [Nat.zero_add, Prod.mk.injEq] at heq
    obtain rfl := heq.1
    rw [hj] at hm
    cases k <;> cases hm

/-- An allocation that is made is that of both passes (R35). -/
theorem allocate_lowest {placed : List (Nat × ChannelNo)} (h : allocate map kinds = .ok placed) :
    PairsPlaced map kinds (placedAt placed) kinds.length ∧ SinglesPlaced map kinds (placedAt placed) kinds.length := by
  unfold allocate at h
  split at h
  · cases h
  rename_i pairs left hpairs
  split at h
  · cases h
  rename_i singles hsingles
  injection h with h
  subst h
  have hleft : left.Pairwise (· < ·) := freeChannels_ascending.sublist (placePairs_places hpairs).2.1
  have hP := placePairs_answers (i := 0) (kinds := kinds) (freeChannels_ascending (map := map))
  have hS := placeSingles_answers (i := 0) (kinds := kinds) hleft
  rw [hpairs] at hP
  rw [hsingles] at hS
  obtain ⟨f, hf, hmemP⟩ := hP
  obtain ⟨g, hg, hmemS⟩ := hS
  have hpair : ∀ j, kinds[j]? = some true → placedAt (pairs ++ singles) j = f j := fun j hj =>
    placedAt_eq hj hmemP (fun x hx => (hmemS x).1 hx) fun x => List.mem_append
  have hsingle : ∀ j, kinds[j]? = some false → placedAt (pairs ++ singles) j = g j := fun j hj =>
    placedAt_eq hj hmemS (fun x hx => (hmemP x).1 hx) fun x => List.mem_append.trans or_comm
  exact ⟨pairsPlaced_of_lowestTaken hf hpair,
    singlesPlaced_of_lowestTaken hg (mem_left_iff hpairs hmemP hpair) hsingle⟩

/-- The channels of both passes as one choice: of the first for a complementary binding, of the second for a single one. -/
def byKind (kinds : List Bool) (f g : Nat → ChannelNo) (j : Nat) : ChannelNo :=
  if kinds[j]? = some true then f j else g j

/-- An allocation that fails names the first complementary binding that found no pair or, every pair placed, the first
single one that found no channel (R36). -/
theorem allocate_error {m : Nat} (h : allocate map kinds = .error m) :
    ∃ f : Nat → ChannelNo, PairsPlaced map kinds f (if kinds[m]? = some true then m else kinds.length)
      ∧ ((kinds[m]? = some true ∧ ∀ c, ¬ PairFree map kinds f m c)
        ∨ (kinds[m]? = some false ∧ SinglesPlaced map kinds f m ∧ ∀ c, ¬ SingleFree map kinds f m c)) := by
  unfold allocate at h
  have hP := placePairs_answers (i := 0) (kinds := kinds) (freeChannels_ascending (map := map))
  split at h
  · rename_i stuck hpairs
    injection h with h
    subst h
    rw [hpairs] at hP
    obtain ⟨f, j, rfl, hj, hf, hnone⟩ := hP
    rw [Nat.zero_add]
    have hself : ∀ j, kinds[j]? = some true → f j = f j := fun _ _ => rfl
    rw [if_pos hj]
    exact ⟨f, pairsPlaced_of_lowestTaken hf hself, .inl ⟨hj, fun c hc => hnone c ((openTo_iff_pairFree hself c).2 hc)⟩⟩
  rename_i pairs left hpairs
  have hleft : left.Pairwise (· < ·) := freeChannels_ascending.sublist (placePairs_places hpairs).2.1
  have hS := placeSingles_answers (i := 0) (kinds := kinds) hleft
  split at h
  swap
  · cases h
  rename_i stuck hsingles
  injection h with h
  subst h
  rw [hpairs] at hP
  rw [hsingles] at hS
  obtain ⟨f, hf, hmemP⟩ := hP
  obtain ⟨g, j, rfl, hj, hg, hnone⟩ := hS
  rw [Nat.zero_add]
  have hpair : ∀ j, kinds[j]? = some true → byKind kinds f g j = f j := fun j hj => if_pos hj
  have hsingle : ∀ j, kinds[j]? = some false → byKind kinds f g j = g j := fun j hj =>
    if_neg (by simp [hj])
  have hmem := mem_left_iff hpairs hmemP hpair
  refine ⟨byKind kinds f g, ?_, .inr ⟨hj, ?_, fun c hc => hnone c ?_⟩⟩
  · rw [if_neg (by simp [hj])]
    exact pairsPlaced_of_lowestTaken hf hpair
  · exact singlesPlaced_of_lowestTaken hg hmem hsingle
  · exact (openTo_iff_singleFree hmem hsingle c).2 hc

end passes

/-- Settles O24: both passes are greedy, and their channels are free and apart. -/
theorem allocationTakesAlignedPairs : Obligations.AllocationTakesAlignedPairs := by
  unfold Obligations.AllocationTakesAlignedPairs
  refine fun map kinds => ⟨fun placed h => ?_, fun m h => allocate_error h⟩
  obtain ⟨hpairs, hsingles⟩ := allocate_lowest h
  obtain ⟨hfree, hapart⟩ := allocate_apart h
  refine ⟨hpairs, hsingles, fun i hi => ?_⟩
  have hkind : kinds[i]? = some kinds[i] := List.getElem?_eq_getElem hi
  refine ⟨hfree i _ hkind _ (mem_takenChannels_self _ _), fun hk => ?_, fun j hj hne => ?_⟩
  · rw [hk] at hkind
    obtain ⟨⟨heven, -, hpartner, -⟩, -⟩ := hpairs i hi hkind
    exact ⟨heven, hpartner⟩
  · have hmeet := hapart j i _ _ (List.getElem?_eq_getElem hj) hkind hne _ (mem_takenChannels_self _ _)
    refine ⟨fun heq => hmeet (heq ▸ mem_takenChannels_self _ _), fun hk heq => hmeet ?_⟩
    rw [hk, heq]
    simp [takenChannels, oddPartner]

end Sys2Proof.Machine
end

section
/-! CLAIM's ten checks (R25 to R36): each passes or refuses as its rule says, so that a claim is refused at the first that
fails. -/

namespace Sys2Proof.Machine

variable {s : State} {l : Link} {ps : List Byte} {n : SessionNo} {r : SessionRecord} {q : ClaimRequest}
  {status : Status} {detail : Byte}

/-! ## The record, the quota and the pins (R25, R28, R29) -/

theorem State.lowestFreeLease_eq_none (h : ∀ k : LeaseNo, s.leases[k] ≠ none) : s.lowestFreeLease = none :=
  find_finRange_none fun k => Option.isNone_eq_false_iff.2 (Option.isSome_iff_ne_none.2 (h k))

theorem State.lowestFreeLease_eq_some {k : LeaseNo} (hk : s.leases[k] = none)
    (hb : ∀ j : LeaseNo, j < k → s.leases[j] ≠ none) : s.lowestFreeLease = some k :=
  find_finRange_some (Option.isNone_iff_eq_none.2 hk) fun j hj =>
    Option.isNone_eq_false_iff.2 (Option.isSome_iff_ne_none.2 (hb j hj))

theorem State.exists_lowestFreeLease (h : ∃ k : LeaseNo, s.leases[k] = none) : ∃ k, s.lowestFreeLease = some k := by
  obtain ⟨k, hk⟩ := h
  rw [← Option.isSome_iff_exists, State.lowestFreeLease, List.find?_isSome]
  exact ⟨k, List.mem_finRange k, by simp [hk, -Fin.getElem_fin]⟩

theorem State.Serves.claimQuota {c : Command} (h : s.Serves c l ps n r) :
    (s.renewed n).sessions[n].elim 0 (·.quota) = r.quota := by
  rw [State.session_renewed h.record, Option.elim_some, SessionRecord.quota_renewed]

theorem State.checkPins_ok (h : ∀ p ∈ q.pins, s.pins[p].owner = none) : s.checkPins q = .ok () := by
  have hnone : s.lowestOwnedNamed q = none := find_finRange_none fun p => by
    by_cases hp : p ∈ q.pins
    · simp [h p hp, -Fin.getElem_fin]
    · simp [hp]
  rw [State.checkPins, hnone]

theorem State.checkPins_error {p : PinNo} (hp : p ∈ q.pins) (ho : s.pins[p].owner ≠ none)
    (hb : ∀ x ∈ q.pins, x < p → s.pins[x].owner = none) :
    s.checkPins q = .error { status := .pinTaken, detail := byte p.val } := by
  have hsome : s.lowestOwnedNamed q = some p := find_finRange_some
    (by simpa [hp, Option.isSome_iff_ne_none, -Fin.getElem_fin] using ho) fun x hx => by
      by_cases hmem : x ∈ q.pins
      · simp [hb x hmem hx, -Fin.getElem_fin]
      · simp [hmem]
  rw [State.checkPins, hsome]

/-! ## The blocks and the timebase (R30 to R33) -/

theorem ClaimBlock.safeFits_iff {b : ClaimBlock} : b.safeFits = true
    ↔ (b.complementPin ≠ none → SafeLevelsPass b.settings.polarity b.safe b.complementSafe) := by
  rw [ClaimBlock.safeFits, Bool.or_eq_true, safePairFits_iff, Option.isNone_iff_eq_none, or_iff_not_imp_left]

/-- The period that governs a claim: the claimed one on an IDLE timebase, else the coming one (R31, R32). -/
def Timebase.governing (t : Timebase) (q : ClaimRequest) : Nat :=
  match t.run with
  | none => q.period
  | some x => x.coming

theorem State.checkTimebase_ok (h : s.timebases[q.timebase].Agrees q) :
    s.checkTimebase q = .ok (s.timebases[q.timebase].governing q) := by
  unfold Timebase.Agrees at h
  unfold State.checkTimebase Timebase.governing
  cases hr : s.timebases[q.timebase].run with
  | none =>
    rw [hr] at h
    simp only [if_neg h]
  | some x =>
    rw [hr] at h
    rcases h with hp | ⟨hp, hs⟩
    · simp only [hp, if_true]
    · simp only [hp, hs, if_true, ite_self]

theorem State.checkTimebase_idle (hr : s.timebases[q.timebase].run = none) (hp : q.period = 0) :
    s.checkTimebase q = .error { status := .badArgument, detail := 0xFF } := by
  simp only [State.checkTimebase, hr, hp, if_true]

theorem State.checkTimebase_conflict {x : TimebaseRun} (hr : s.timebases[q.timebase].run = some x)
    (h : ¬ s.timebases[q.timebase].Agrees q) : s.checkTimebase q = .error (Reject.mk .periodConflict
      (byte ((if q.period = x.coming then 0 else 1)
        + (if q.prescale = s.timebases[q.timebase].prescale then 0 else 2)))) := by
  rw [Timebase.Agrees, hr, not_or, not_and] at h
  obtain ⟨hzero, hboth⟩ := h
  simp only [State.checkTimebase, hr, if_neg hzero]
  by_cases hp : q.period = x.coming
  · simp only [if_pos hp, if_neg (hboth hp)]
    rfl
  · by_cases hs : q.prescale = s.timebases[q.timebase].prescale
    · simp only [if_neg hp, if_pos hs]
      rfl
    · simp only [if_neg hp, if_neg hs]
      rfl

theorem State.claimDutyFits_iff {b : ClaimBlock} : s.claimDutyFits q (s.timebases[q.timebase].governing q) b = true
    ↔ s.timebases[q.timebase].DutyPasses q b.settings.duty := by
  unfold State.claimDutyFits Timebase.DutyPasses Timebase.governing
  cases s.timebases[q.timebase].run <;> simp

/-! ## The latches and the channels (R34 to R36) -/

/-- The latches that would reach a claim, as the byte of a set of sources. -/
theorem State.latchesAgainst_toByte (s : State) (q : ClaimRequest) :
    (s.latchesAgainst q.subscription).toByte = byte (s.trip.latchesOn q) := by
  unfold State.latchesAgainst TripUnit.latchesOn SourceSet.toByte
  cases s.trip.flt0.latch <;> cases q.subscription.flt0 <;> cases s.trip.flt1.latch <;> cases q.subscription.flt1 <;>
    cases s.trip.supplyLatch <;> cases s.trip.haltLatch <;> rfl

theorem State.latchesAgainst_empty_iff : (s.latchesAgainst q.subscription == SourceSet.empty) = true
    ↔ s.trip.latchesOn q = 0 := by
  simp [State.latchesAgainst, TripUnit.latchesOn, SourceSet.empty, and_assoc]

theorem State.checkChannels_ok {placed : List (Nat × ChannelNo)}
    (h : allocate s.channels (q.blocks.map fun b => b.complementPin.isSome) = .ok placed) :
    s.checkChannels q = .ok placed := by
  rw [State.checkChannels, h]

theorem State.checkChannels_error {i : Nat}
    (h : allocate s.channels (q.blocks.map fun b => b.complementPin.isSome) = .error i) :
    s.checkChannels q = .error { status := .noChannel, detail := byte i } := by
  rw [State.checkChannels, h]

/-! ## The checks in order -/

theorem performClaimCommand_misspelled (h : s.Serves .claim l ps n r) (hm : ClaimMisspelled ps detail) :
    performClaimCommand (s.renewed n) n ps = .error { status := .badArgument, detail := detail } := by
  simp only [performClaimCommand, readClaim_error h.length hm, bind, Except.bind]

/-- Steps 2 to 10 of CLAIM refuse at the first that fails (R25, R28 to R36). -/
theorem performClaimCommand_refuses (h : s.Serves .claim l ps n r) (hq : ClaimSpelled ps q)
    (hr : s.ClaimRefused n r q status detail) :
    performClaimCommand (s.renewed n) n ps = .error { status := status, detail := detail } := by
  simp only [performClaimCommand, readClaim_ok hq, bind, Except.bind]
  obtain ⟨hfull, rfl, rfl⟩ | ⟨hfree, hr⟩ := hr
  · have hnone : (s.renewed n).lowestFreeLease = none := State.lowestFreeLease_eq_none hfull
    simp only [hnone, need_none]
  obtain ⟨k, hk⟩ := State.exists_lowestFreeLease (s := s.renewed n) hfree
  simp only [hk, need_some, h.claimQuota]
  obtain ⟨hquota, rfl, rfl⟩ | ⟨hquota, hr⟩ := hr
  · rw [check_eq_error (by rw [bne_iff_ne, not_not]; exact hquota)]
  have hcheck : ((s.renewed n).heldCount n != r.quota) = true := bne_iff_ne.2 hquota
  simp only [hcheck, check_ok]
  obtain ⟨p, hp, ho, hb, rfl, rfl⟩ | ⟨hpins, hr⟩ := hr
  · simp only [State.checkPins_error (s := s.renewed n) hp ho hb]
  simp only [State.checkPins_ok (s := s.renewed n) hpins]
  obtain ⟨i, hfirst, rfl, rfl⟩ | ⟨hsafe, hr⟩ := hr
  · simp only [checkEach_error (fun _ => ClaimBlock.safeFits_iff) hfirst]
  simp only [checkEach_ok (fun _ => ClaimBlock.safeFits_iff) hsafe]
  obtain ⟨hrun, hperiod, rfl, rfl⟩ | ⟨x, hrun, hdisagrees, rfl, rfl⟩ | ⟨hagrees, hr⟩ := hr
  · simp only [State.checkTimebase_idle (s := s.renewed n) hrun hperiod]
  · simp only [State.checkTimebase_conflict (s := s.renewed n) hrun hdisagrees]
    rfl
  simp only [State.checkTimebase_ok (s := s.renewed n) hagrees]
  obtain ⟨i, hfirst, rfl, rfl⟩ | ⟨hduties, hr⟩ := hr
  · simp only [checkEach_error (fun _ => State.claimDutyFits_iff (s := s.renewed n)) hfirst]
  simp only [checkEach_ok (fun _ => State.claimDutyFits_iff (s := s.renewed n)) hduties]
  obtain ⟨i, hfirst, rfl, rfl⟩ | ⟨hgates, hr⟩ := hr
  · simp only [checkEach_error (fun _ => (s.renewed n).gateRunning_iff) hfirst]
  simp only [checkEach_ok (fun _ => (s.renewed n).gateRunning_iff) hgates]
  obtain ⟨hlatches, rfl, rfl⟩ | ⟨hlatches, i, hfail, rfl, rfl⟩ := hr
  · rw [check_eq_error (mt (State.latchesAgainst_empty_iff (s := s.renewed n)).1 hlatches), State.latchesAgainst_toByte]
    rfl
  · simp only [(State.latchesAgainst_empty_iff (s := s.renewed n)).2 hlatches, check_ok,
      State.checkChannels_error (s := s.renewed n) hfail]

/-- The claim of a session passes CLAIM's checks after the first: the lowest FREE record is `k`, and the channels placed are
those of the allocation (R28 to R36). -/
structure State.ClaimPasses (s : State) (n : SessionNo) (r : SessionRecord) (q : ClaimRequest) (k : LeaseNo)
    (placed : List (Nat × ChannelNo)) : Prop where
  lease : s.leases[k] = none
  lowest : ∀ j : LeaseNo, j < k → s.leases[j] ≠ none
  quota : s.heldCount n ≠ r.quota
  pins : ∀ p ∈ q.pins, s.pins[p].owner = none
  safe : ∀ b ∈ q.blocks, b.complementPin ≠ none → SafeLevelsPass b.settings.polarity b.safe b.complementSafe
  timebase : s.timebases[q.timebase].Agrees q
  duties : ∀ b ∈ q.blocks, s.timebases[q.timebase].DutyPasses q b.settings.duty
  gates : ∀ b ∈ q.blocks, s.GatePasses b.settings
  latches : s.trip.latchesOn q = 0
  channels : allocate s.channels (q.blocks.map fun b => b.complementPin.isSome) = .ok placed

/-- A claim that passes is performed on the renewed tables (R37 to R41). -/
theorem performClaimCommand_passes {k : LeaseNo} {placed : List (Nat × ChannelNo)} (h : s.Serves .claim l ps n r)
    (hq : ClaimSpelled ps q) (hc : s.ClaimPasses n r q k placed) :
    performClaimCommand (s.renewed n) n ps = .ok ((s.renewed n).performClaim n q k (q.bindings placed),
      goodResponse (claimData k s.timebases[q.timebase].run.isNone (s.timebases[q.timebase].governing q)
        (q.bindings placed))) := by
  have hfree : (s.renewed n).lowestFreeLease = some k := State.lowestFreeLease_eq_some hc.lease hc.lowest
  have hquota : ((s.renewed n).heldCount n != r.quota) = true := bne_iff_ne.2 hc.quota
  simp only [performClaimCommand, readClaim_ok hq, hfree, need_some, h.claimQuota, hquota, check_ok, bind, Except.bind,
    State.checkPins_ok (s := s.renewed n) hc.pins, checkEach_ok (fun _ => ClaimBlock.safeFits_iff) hc.safe,
    State.checkTimebase_ok (s := s.renewed n) hc.timebase,
    checkEach_ok (fun _ => State.claimDutyFits_iff (s := s.renewed n)) hc.duties,
    checkEach_ok (fun _ => (s.renewed n).gateRunning_iff) hc.gates,
    (State.latchesAgainst_empty_iff (s := s.renewed n)).2 hc.latches,
    State.checkChannels_ok (s := s.renewed n) hc.channels]
  rfl

theorem State.ClaimPasses.claimFits {k : LeaseNo} {placed : List (Nat × ChannelNo)} (hc : s.ClaimPasses n r q k placed)
    (hq : ClaimSpelled ps q) : s.ClaimFits q k (s.timebases[q.timebase].governing q) placed :=
  ⟨⟨ps, hq⟩, hc.lease, hc.pins, fun b hb => ClaimBlock.safeFits_iff.2 (hc.safe b hb), State.checkTimebase_ok hc.timebase,
    fun b hb => State.claimDutyFits_iff.2 (hc.duties b hb), hc.channels⟩

/-- Settles O23: CLAIM's own checks refuse while it reads the request, or at the first of the steps after. -/
theorem claimRefusesInOrder : Obligations.ClaimRefusesInOrder := by
  unfold Obligations.ClaimRefusesInOrder
  intro s l ps n r status detail h hs hr
  obtain ⟨hm, rfl⟩ | ⟨q, hq, hr⟩ := hr
  · exact State.happen_refused h hs (performClaimCommand_misspelled h hm)
  · exact State.happen_refused h hs (performClaimCommand_refuses h hq hr)

end Sys2Proof.Machine
end

section
/-! An accepted claim (R37 to R41): its lease, its bindings in the tables, its timebase, the counts that follow it, and the
answer. -/

namespace Sys2Proof.Machine

/-! ## The counts after one lease record is put in a FREE one's place (R48, R100) -/

/-- A sum over a table with one entry put in the place of a 0. -/
theorem sum_map_finRange_put {m : Nat} {f g : Fin m → Nat} {k : Fin m} (h : ∀ j, j ≠ k → g j = f j) (h0 : f k = 0) :
    ((List.finRange m).map g).sum = ((List.finRange m).map f).sum + g k := by
  have hrest : ∑ j ∈ Finset.univ.erase k, g j = ∑ j ∈ Finset.univ.erase k, f j :=
    Finset.sum_congr rfl fun j hj => h j (Finset.ne_of_mem_erase hj)
  rw [← Fin.sum_univ_def, ← Fin.sum_univ_def, ← Finset.sum_erase_add _ f (Finset.mem_univ k),
    ← Finset.sum_erase_add _ g (Finset.mem_univ k), hrest, h0, Nat.add_zero]

variable {s : State} {q : ClaimRequest} {k : LeaseNo} {g : Nat} {placed : List (Nat × ChannelNo)}

theorem bindingsOn_putAt {ls : Vector Lease 16} (h : ls[k] = none) (x : Lease) (tb : TimebaseNo) :
    bindingsOn (putAt ls k x) tb = bindingsOn ls tb + leaseBindingsOn x tb := by
  have hsum := sum_map_finRange_put (f := fun j => leaseBindingsOn ls[j] tb)
    (g := fun j => leaseBindingsOn (putAt ls k x)[j] tb) (k := k) (fun j hj => by rw [putAt_other ls x hj]) (by rw [h]; rfl)
  rwa [putAt_self] at hsum

theorem carrierUses_putAt {ls : Vector Lease 16} (h : ls[k] = none) (x : Lease) (c : Carrier) :
    carrierUses (putAt ls k x) c = carrierUses ls c + leaseUses x c := by
  have hsum := sum_map_finRange_put (f := fun j => leaseUses ls[j] c)
    (g := fun j => leaseUses (putAt ls k x)[j] c) (k := k) (fun j hj => by rw [putAt_other ls x hj]) (by rw [h]; rfl)
  rwa [putAt_self] at hsum

theorem Timebase.recount_add (t : Timebase) (old d : Nat) : t.recount old (old + d) = { t with refCount := t.refCount + d } := by
  rw [Timebase.recount, ← Nat.add_assoc, Nat.add_right_comm, Nat.add_sub_cancel]

theorem CarrierUnit.recount_add (u : CarrierUnit) (old d : Nat) : u.recount old (old + d) = { u with inUse := u.inUse + d } := by
  rw [CarrierUnit.recount, ← Nat.add_assoc, Nat.add_right_comm, Nat.add_sub_cancel]

/-! ## The timebases and the carriers after a claim (R37 to R40, R48, R100) -/

/-- A claim's timebase gains its bindings, and starts where it was IDLE; every other is as before. -/
theorem State.timebases_performClaim (h : s.leases[k] = none) (n : SessionNo) (bs : List Binding) (tb : TimebaseNo) :
    (s.performClaim n q k bs).timebases[tb] = if tb = q.timebase then
        ({ s.timebases[tb] with refCount := s.timebases[tb].refCount + bs.length } : Timebase).start q.period q.prescale k
      else s.timebases[tb] := by
  have hcount : bindingsOn (putAt s.leases k (some (q.record n bs))) tb
      = bindingsOn s.leases tb + if q.timebase = tb then bs.length else 0 := bindingsOn_putAt h _ tb
  simp only [State.performClaim, Fin.getElem_fin, State.timebases_setTimebase, State.putLease]
  by_cases htb : tb = q.timebase
  · subst htb
    rw [if_pos rfl] at hcount
    rw [if_pos rfl, if_pos rfl, State.timebases_setLeases, Fin.eta, hcount, Timebase.recount_add]
  · rw [if_neg (Ne.symm htb), Nat.add_zero] at hcount
    rw [if_neg (Fin.val_ne_of_ne htb), if_neg htb, State.timebases_setLeases, Fin.eta, hcount, Timebase.recount_same]

theorem length_filter_zipIdx {α : Type} (p : α → Bool) (xs : List α) :
    (xs.zipIdx.filter fun x => p x.1).length = (xs.filter p).length := by
  conv_rhs => rw [← List.zipIdx_map_fst 0 xs, List.filter_map, List.length_map]
  rfl

/-- The uses that a claim makes of a carrier are its blocks that name it as their gate (R24, R100). -/
theorem ClaimRequest.uses_record (q : ClaimRequest) (n : SessionNo) (placed : List (Nat × ChannelNo)) (c : Carrier) :
    (q.record n (q.bindings placed)).uses c = (q.blocks.filter fun b => b.settings.gate = some c).length := by
  have huses : (q.record n (q.bindings placed)).uses c
      = ((q.bindings placed).zipIdx.filter fun x => x.1.active.gate == some c).length := by
    simp [LeaseRecord.uses, ClaimRequest.record, LeaseRecord.stagedAt, namesCarrier]
  rw [huses, length_filter_zipIdx fun b : Binding => b.active.gate == some c, ClaimRequest.bindings, List.filter_map,
    List.length_map]
  have hblocks := length_filter_zipIdx (fun b : ClaimBlock => b.settings.gate == some c) q.blocks
  simp only [beq_eq_decide] at hblocks ⊢
  exact hblocks

theorem State.carrier_performClaim (h : s.leases[k] = none) (n : SessionNo) (bs : List Binding) (c : Carrier) :
    (s.performClaim n q k bs).carrier c
      = { s.carrier c with inUse := (s.carrier c).inUse + (q.record n bs).uses c } := by
  have hcount : carrierUses (putAt s.leases k (some (q.record n bs))) c
      = carrierUses s.leases c + (q.record n bs).uses c := carrierUses_putAt h _ c
  rw [← CarrierUnit.recount_add _ (carrierUses s.leases c), ← hcount]
  cases c <;> rfl

/-! ## The bindings of a claim in the tables (R37, R38) -/

theorem mem_bindings_halves {bs : List Binding} {b : Binding} {z : Role × ChannelNo × PinNo} (hb : b ∈ bs)
    (hz : z ∈ b.halves) : ∃ i, HasHalf bs i b z := by
  obtain ⟨i, hi⟩ := List.mem_iff_getElem?.1 hb
  exact ⟨i, hi, hz⟩

/-- The engines, the map and the pins serve each half of the new lease's bindings, the engines HELD (R37, R38). -/
theorem State.ClaimFits.served (hf : s.ClaimFits q k g placed) (n : SessionNo) {t : State}
    (ht : (s.performClaim n q k (q.bindings placed)).SameTables t) :
    t.BindingsServed k (q.record n (q.bindings placed)) := by
  refine State.bindingsServed_iff.2 fun i b z hz => ⟨?_, ?_, ?_⟩
  · rw [ht.channels, State.channels_performClaim, hf.placeOfChannel hz]
    rfl
  · refine Engine.Serves.of_bare (Engine.serves_iff.2 (.inl ⟨rfl, ?_⟩)) (ht.engines z.2.1)
    rw [State.engines_performClaim, hf.placeOfChannel hz]
    rfl
  · rw [ht.owners, State.owner_performClaim, hf.placeOfPin hz]
    rfl

/-- A pin that a lease owns shows the safe level of its binding while the lease shows safe levels (R95). -/
theorem State.safe_level_refresh {p : PinNo} {o : PinOwner} {x : LeaseRecord} {b : Binding} (ho : s.pins[p].owner = some o)
    (hx : s.leases[o.place.lease] = some x) (hb : x.bindings[o.place.index]? = some b) (hp : x.phase.showsSafe = true) :
    s.refresh.pins[p].level = b.safeFor o.place.role := by
  have hx' : s.refreshEngines.leases[o.place.lease] = some x := by rw [State.leases_refreshEngines, hx]
  rw [Fin.getElem_fin] at ho ⊢
  rw [State.pins_refresh]
  simp only [State.levelOf, ho, hx', hb, hp, if_true]

/-- A claim takes no channel and loads no engine but those of its bindings' halves (R37). -/
theorem State.ClaimFits.channel_kept (hf : s.ClaimFits q k g placed) (n : SessionNo) {t : State}
    (ht : (s.performClaim n q k (q.bindings placed)).SameTables t) {c : ChannelNo}
    (hc : ∀ b ∈ q.bindings placed, ∀ z ∈ b.halves, z.2.1 ≠ c) :
    t.channels[c] = s.channels[c] ∧ t.engines[c].bare = s.engines[c].bare := by
  have hnone : Machine.placeOfChannel k (q.bindings placed) c = none := by
    rcases hf.channel_cases c with hnone | ⟨i, b, z, hz, rfl, -⟩
    · exact hnone
    · exact absurd rfl (hc b (List.mem_of_getElem? hz.1) z hz.2)
  rw [ht.channels, ht.engines, State.channels_performClaim, State.engines_performClaim, hnone]
  exact ⟨rfl, rfl⟩

/-- A claim takes no pin but those of its bindings' halves (R38). -/
theorem State.ClaimFits.pin_kept (hf : s.ClaimFits q k g placed) (n : SessionNo) {t : State}
    (ht : (s.performClaim n q k (q.bindings placed)).SameTables t) {p : PinNo}
    (hp : ∀ b ∈ q.bindings placed, ∀ z ∈ b.halves, z.2.2 ≠ p) : t.pins[p].owner = s.pins[p].owner := by
  have hnone : Machine.placeOfPin k (q.bindings placed) p = none := by
    rcases hf.pin_cases p with hnone | ⟨i, b, z, hz, rfl, -⟩
    · exact hnone
    · exact absurd rfl (hp b (List.mem_of_getElem? hz.1) z hz.2)
  rw [ht.owners, State.owner_performClaim, hnone]
  rfl

theorem State.rest_performClaim (n : SessionNo) (bs : List Binding) (p : PinNo) :
    (s.performClaim n q k bs).pins[p].rest = s.pins[p].rest := by
  simp only [State.performClaim, State.setTimebase_pins, State.putLease_pins, mapTable_at]
  cases placeOfPin k bs p <;> rfl

/-- The checks passed read the leases, channels, pins and timebases alone, which a renewal leaves as they are. -/
theorem State.ClaimFits.renewed (hf : s.ClaimFits q k g placed) (n : SessionNo) : (s.renewed n).ClaimFits q k g placed :=
  ⟨hf.spelled, hf.lease, hf.pins, hf.safe, hf.timebase, hf.duties, hf.channels⟩

/-! ## An accepted claim -/

/-- The timebase agrees with a claim where its period and prescale do, and a period then governs (R31, R32). -/
theorem Timebase.agrees_of_governing {t : Timebase} (h : match t.run with
      | none => q.period ≠ 0 ∧ g = q.period
      | some x => g = x.coming ∧ (q.period = 0 ∨ (q.period = x.coming ∧ q.prescale = t.prescale))) :
    t.Agrees q ∧ g = t.governing q := by
  unfold Timebase.Agrees Timebase.governing
  cases hr : t.run <;> rw [hr] at h
  · exact h
  · exact h.symm

theorem Timebase.dutyPasses_of_governing {t : Timebase} {duty : Nat} (h : duty ≤ t.governing q)
    (hforce : ∀ x, t.run = some x → duty ≤ x.period) : t.DutyPasses q duty := by
  unfold Timebase.governing at h
  unfold Timebase.DutyPasses
  cases hr : t.run <;> rw [hr] at h
  · exact h
  · exact ⟨h, hforce _ hr⟩

theorem TripUnit.latchesOn_eq_zero {t : TripUnit} (hinput : ∀ i, q.subscription.has i = true → (t.input i).latch = false)
    (hsupply : t.supplyLatch = false) (hhalt : t.haltLatch = false) : t.latchesOn q = 0 := by
  have h0 : ¬ (t.flt0.latch = true ∧ q.subscription.flt0 = true) := fun ⟨hset, hsub⟩ =>
    absurd (hinput .flt0 hsub) (by simpa [TripUnit.input] using hset)
  have h1 : ¬ (t.flt1.latch = true ∧ q.subscription.flt1 = true) := fun ⟨hset, hsub⟩ =>
    absurd (hinput .flt1 hsub) (by simpa [TripUnit.input] using hset)
  simp [TripUnit.latchesOn, h0, h1, hsupply, hhalt]

/-- A claim's timebase as R39 and R40 give it. -/
theorem Timebase.start_withCount (t : Timebase) (d : Nat) (period : Nat) (prescale : Fin 8) (k : LeaseNo) :
    ({ t with refCount := t.refCount + d } : Timebase).start period prescale k = (match t.run with
      | none => { prescale := prescale, counter := t.counter, refCount := t.refCount + d
                  run := some { period := period, staged := none, holder := k, startPending := true } }
      | some x => { prescale := t.prescale, counter := t.counter, refCount := t.refCount + d, run := some x }) := by
  obtain ⟨_, _, _, _ | _⟩ := t <;> rfl

/-- Settles O22: the request passes the ten checks, so it is performed on the renewed tables. -/
theorem claimFillsTheLowestFreeLease : Obligations.ClaimFillsTheLowestFreeLease := by
  unfold Obligations.ClaimFillsTheLowestFreeLease
  intro s l ps n r q k governing placed h hq hk hlow hquota hpins hsafe htb hduties hgates hinput hsupply hhalt hchannels
  obtain ⟨hagrees, rfl⟩ := Timebase.agrees_of_governing htb
  have hpass : s.ClaimPasses n r q k placed :=
    ⟨hk, hlow, hquota, hpins, fun b hb hc => safePairFits_iff.1 (hsafe b hb hc), hagrees,
      fun b hb => Timebase.dutyPasses_of_governing (hduties b hb).1 (hduties b hb).2, hgates,
      TripUnit.latchesOn_eq_zero hinput hsupply hhalt, hchannels⟩
  have hf := (hpass.claimFits hq).renewed n
  have hperform := performClaimCommand_passes h hq hpass
  set resp := goodResponse (claimData k s.timebases[q.timebase].run.isNone (s.timebases[q.timebase].governing q)
    (q.bindings placed))
  set u := (s.renewed n).performClaim n q k (q.bindings placed) with hu
  have hp : u.SameTables (u.place l resp) := u.sameTables_place l resp
  have ht : u.SameTables (u.place l resp).refresh := hp.trans (State.sameTables_refresh _)
  have hlease : ∀ j : LeaseNo, u.leases[j] = if j = k then some (q.record n (q.bindings placed)) else s.leases[j] :=
    fun j => by simp only [hu, Fin.getElem_fin, State.leases_performClaim, State.renewed_leases, Fin.ext_iff]
  have hnew : u.leases[k] = some (q.record n (q.bindings placed)) := by rw [hlease, if_pos rfl]
  refine ⟨_, q.record n (q.bindings placed), State.happen_served h hperform, ?_, rfl, fun j hj => ?_, hf.served n ht,
    fun b hb z hz => ?_, fun c hc => hf.channel_kept n ht hc, fun p => ⟨?_, fun hp => hf.pin_kept n ht hp⟩, ?_,
    fun j hj => ?_, fun c => ?_, fun c => ?_, ?_, ?_, State.settled_refresh _, ?_⟩
  · rw [ht.leases, hnew]
  · rw [ht.leases, hlease, if_neg hj]
  · obtain ⟨i, hi⟩ := mem_bindings_halves hb hz
    obtain ⟨-, -, howner⟩ := State.bindingsServed_iff.1 (hf.served n hp) i b z hi
    have hplaced : (u.place l resp).leases[k] = some (q.record n (q.bindings placed)) := by rw [hp.leases, hnew]
    exact State.safe_level_refresh howner hplaced hi.1 rfl
  · rw [Fin.getElem_fin, (State.pin_refresh_kept _ p.val p.isLt).2, State.place_pins, ← Fin.getElem_fin, hu,
      State.rest_performClaim, State.renewed_pins]
  · rw [ht.timebases, State.timebases_performClaim hf.lease, if_pos rfl, Timebase.start_withCount, State.renewed_timebases]
    rfl
  · rw [ht.timebases, State.timebases_performClaim hf.lease, if_neg hj, State.renewed_timebases]
  · have hc : (u.place l resp).refresh.carrier c = u.carrier c := by cases c <;> simp [State.carrier]
    rw [hc, State.carrier_performClaim hf.lease]
    cases c <;> exact ⟨rfl, rfl⟩
  · rw [ht.uses, State.carrier_performClaim hf.lease, ClaimRequest.uses_record]
    cases c <;> rfl
  · exact State.renews_renewed h (by simp [hu])
  · constructor <;> simp [hu]
  · exact State.answered_of_kept l _ (by simp [hu]) (by simp [hu]) (by simp [hu]) (by simp [hu]) (by simp [hu])
      (by simp [hu])

end Sys2Proof.Machine
end

section
/-! The counts and the period holders through a step (R48, R64, R65, R100): a move of the tables keeps the wiring unless it
resets the part, frees leases or claims one. -/

namespace Sys2Proof.Machine

/-- Settles O52: each move of the tables keeps the counts right, so every step does. -/
theorem stepsKeepTheCounts : Obligations.StepsKeepTheCounts := by
  unfold Obligations.StepsKeepTheCounts
  intro s t hcounts hstep
  exact State.invariant_step (fun _ _ hm => hm.countsAgree) hstep hcounts

/-- A move of the tables keeps every lease's wiring and every holder, or is one of the three that give and take leases. -/
theorem State.TableMove.wiring_cases {s t : State} (hm : State.TableMove s t) :
    s.SameWiring t ∨ t = s.fullReset ∨ (∃ which, t = s.freeLeases which)
      ∨ ∃ q k governing placed n, s.ClaimFits q k governing placed ∧ t = s.performClaim n q k (q.bindings placed) := by
  cases hm with
  | same hs => exact .inl hs.sameWiring
  | reset => exact .inr (.inl rfl)
  | tripped reached cause => exact .inl (s.sameWiring_takeTrip reached cause)
  | freed which => exact .inr (.inr (.inl ⟨which, rfl⟩))
  | claimed n hf => exact .inr (.inr (.inr ⟨_, _, _, _, n, hf, rfl⟩))
  | amended hf => exact .inl (State.sameWiring_put (fun n e => by split <;> simp) hf.lease rfl)
  | drained hr => exact .inl (State.sameWiring_put (fun n e => by split <;> simp) hr rfl)
  | cleared hr => exact .inl (State.sameWiring_putLease hr rfl)
  | adopted n hr => exact .inl (State.sameWiring_putLease hr rfl)
  | counted => exact .inl (State.sameWiring_setTimebase rfl)
  | retuned run => exact .inl (State.sameWiring_setTimebase (by rw [Timebase.holder?, Timebase.holder?, run]; rfl))
  | boundary run => exact .inl (State.sameWiring_moveBoundary run)

/-- The counts and the period holders, which rest on them (R48, R100). -/
structure State.HoldersSound (s : State) : Prop where
  counts : s.CountsAgree
  holders : s.HoldersAgree

theorem State.TableMove.holdersSound {s t : State} (hm : State.TableMove s t) (h : s.HoldersSound) : t.HoldersSound := by
  have hcounts := hm.countsAgree h.counts
  refine ⟨hcounts, ?_⟩
  rcases hm.wiring_cases with hw | rfl | ⟨which, rfl⟩ | ⟨q, k, g, placed, n, hf, rfl⟩
  · exact h.holders.of_sameWiring hw h.counts hcounts
  · exact s.holdersAgree_fullReset
  · exact State.holdersAgree_freeLeases h.counts h.holders which
  · exact State.holdersAgree_performClaim h.counts h.holders hf n

/-- Settles O54: the holders follow the wiring of the leases and the counts, which every move of the tables keeps right. -/
theorem stepsKeepThePeriodHolders : Obligations.StepsKeepThePeriodHolders := by
  unfold Obligations.StepsKeepThePeriodHolders
  intro s t hcounts _ hholders hstep
  exact (State.invariant_step (fun _ _ hm => hm.holdersSound) hstep ⟨hcounts, hholders⟩).holders

end Sys2Proof.Machine
end

section
/-! What a held reset keeps from happening (R67, R95, R102, R122, R143, R166). -/

namespace Sys2Proof.Machine

/-- Settles O5: each of these rows is a happening, and none is taken while a full reset is held. -/
theorem nothingIsTakenWhileAResetIsHeld : Obligations.NothingIsTakenWhileAResetIsHeld := by
  unfold Obligations.NothingIsTakenWhileAResetIsHeld
  intro s h
  refine ⟨fun c => ?_, ?_, fun tb => ⟨?_, ?_, ?_⟩, fun c => ?_, fun who => ?_, fun n => ⟨?_, ?_⟩, fun i => ⟨?_, ?_⟩,
    fun p => if_pos h⟩
  · cases c <;> apply State.happen_held _ h
  all_goals apply State.happen_held _ h

end Sys2Proof.Machine
end

section
/-! A timebase's own happenings (R50 to R53, R63 to R65): a count that is no boundary, the record that a boundary leaves, and
an accepted RETUNE. -/

namespace Sys2Proof.Machine

variable {s : State} {tb : TimebaseNo} {x : TimebaseRun}

/-! ## COUNT above 0 (R50) -/

theorem exec_count_above (hheld : s.resetHeld = false) (hrun : s.timebases[tb].run = some x)
    (hstarted : x.startPending = false) (habove : s.timebases[tb].counter ≠ 0) : exec (.count tb) s
      = .next (s.setTimebase tb { s.timebases[tb] with counter := s.timebases[tb].counter - 1 }).refresh := by
  rw [exec, execCount, State.happen_free _ hheld, hrun]
  simp only [hstarted, Bool.false_eq_true, if_false, habove]

theorem State.timebase_setTimebase (s : State) (tb : TimebaseNo) (y : Timebase) : (s.setTimebase tb y).timebases[tb] = y := by
  simp

theorem State.otherTimebasesKept_setTimebase (s : State) (tb : TimebaseNo) (y : Timebase) :
    s.OtherTimebasesKept (s.setTimebase tb y) tb := fun j hj => by
  simp [Fin.val_ne_of_ne hj]

/-- Bringing the outputs up to date keeps what the engines and the pins hold. -/
theorem State.holdingsKept_refresh (s : State) : s.HoldingsKept s.refresh where
  engines c := s.sameTables_refresh.engines c
  pins p := s.pin_refresh_kept p.val p.isLt

/-- Settles O30: the count writes the one timebase record, and the outputs are brought up to date after it. -/
theorem countLowersTheCounter : Obligations.CountLowersTheCounter := by
  unfold Obligations.CountLowersTheCounter
  intro s tb x hheld hrun hstarted habove
  refine ⟨_, exec_count_above hheld hrun hstarted habove, ?_, fun j hj => ?_, ?_, ?_, ?_, ?_, ⟨?_, ?_⟩, ?_, ⟨?_, ?_⟩, ?_, ?_,
    State.settled_refresh _⟩
  · rw [State.refresh_timebases, State.timebase_setTimebase]
  · rw [State.refresh_timebases, s.otherTimebasesKept_setTimebase tb _ j hj]
  · simp
  · simp
  · simp
  · simp
  · exact (State.holdingsKept_refresh _).engines
  · exact (State.holdingsKept_refresh _).pins
  · simp
  · simp
  · simp
  · exact State.linksKept_of_kept rfl rfl rfl rfl rfl rfl
  · simpa using hheld

/-! ## The record after a boundary (R50 to R53, R64, R65) -/

/-- A boundary's moves change no binding and no timebase of a lease, and so no count. -/
theorem bindingsOn_boundaryLeases (ls : Vector Lease 16) (tb j : TimebaseNo) :
    bindingsOn (boundaryLeases ls tb) j = bindingsOn ls j := by
  refine bindingsOn_congr fun n => leaseBindingsOn_of_wiring ?_ j
  rw [boundaryLeases, mapTable_at]
  refine leaseWiring_map fun r => ?_
  split
  · exact leaseWiring_atBoundary r
  · rfl

/-- The timebase after a boundary's moves: the coming period in force and the counter reloaded (R50, R51, R53). -/
theorem State.timebase_moveBoundary (s : State) (tb : TimebaseNo) (x : TimebaseRun) :
    (s.moveBoundary tb x).timebases[tb] = s.timebases[tb].atBoundary x := by
  rw [Fin.getElem_fin, State.timebases_moveBoundary, if_pos rfl, bindingsOn_boundaryLeases, Timebase.recount_same]

theorem State.otherTimebasesKept_moveBoundary (s : State) (tb : TimebaseNo) (x : TimebaseRun) :
    s.OtherTimebasesKept (s.moveBoundary tb x) tb := fun j hj => by
  rw [Fin.getElem_fin, State.timebases_moveBoundary, if_neg (Fin.val_ne_of_ne hj), bindingsOn_boundaryLeases,
    Timebase.recount_same, Fin.getElem_fin]

theorem boundTo_of_endsDrain {l : Lease} (h : endsDrain l tb = true) : boundTo l tb = true := by
  obtain ⟨r, hr, htb, -⟩ := endsDrain_iff.1 h
  exact boundTo_iff.2 ⟨r, hr, htb⟩

theorem boundTo_other {l : Lease} {j : TimebaseNo} (h : boundTo l tb = true) (hj : j ≠ tb) : boundTo l j = false := by
  obtain ⟨r, rfl, rfl⟩ := boundTo_iff.1 h
  simpa [boundTo] using hj.symm

theorem State.TornDown.leases_eq {t : State} {w : LeaseNo → Bool} (h : s.TornDown t w) : t.leases = freedLeases s.leases w :=
  table_ext fun k => by rw [h.leases, getElem_freedLeases]

/-- What a teardown leaves of a running timebase, whether or not a freed lease was bound to it: IDLE with no binding left, else
its record with the count right and the holder of R64 (R16, R64, R65). -/
theorem State.TornDown.timebase {t : State} {w : LeaseNo → Bool} (h : s.TornDown t w) (hs : s.HoldersSound)
    (hrun : s.timebases[tb].run = some x) :
    (bindingsOn t.leases tb = 0 → t.timebases[tb]
      = { prescale := s.timebases[tb].prescale, counter := 0, refCount := 0, run := none })
    ∧ (bindingsOn t.leases tb ≠ 0 → ∃ y, IsHolderAfter t.leases tb x.holder y ∧ t.timebases[tb]
      = { prescale := s.timebases[tb].prescale, counter := s.timebases[tb].counter
          refCount := bindingsOn t.leases tb, run := some { x with holder := y } }) := by
  rcases freed_bound_or s.leases w tb with hnone | ⟨k, hw, hk⟩
  · obtain ⟨hcount, hbound⟩ := (Timebase.holderAgrees_some hrun).1 (State.holdersAgree_iff.1 hs.holders tb)
    rw [h.leases_eq, bindingsOn_freed hnone, ← hs.counts.1 tb, h.kept tb hnone]
    refine ⟨fun h0 => absurd h0 hcount, fun _ => ⟨x.holder, ?_, ?_⟩⟩
    · rw [IsHolderAfter, boundTo_freed hnone, if_pos hbound]
    · rw [← hrun]
  · exact ⟨h.idle tb x k hrun hw hk, h.succession tb x k hrun hw hk⟩

/-- Settles O31: after its moves the boundary tears down the leases whose drains end, which reaches its own timebase alone. -/
theorem boundaryReloadsTheTimebase : Obligations.BoundaryReloadsTheTimebase := by
  unfold Obligations.BoundaryReloadsTheTimebase
  intro s i tb x h hcounts _ hholders
  have htorn := State.tornDown_takeBoundary h hcounts
  have hexec := State.exec_of_takesBoundary h
  obtain ⟨-, hrun, hdue⟩ := h
  have hmove : State.TableMove s (s.moveBoundary tb x) := .boundary hrun (hdue.imp And.right fun h => h.2.2)
  have hmoved : (s.moveBoundary tb x).timebases[tb] = s.timebases[tb].atBoundary x := s.timebase_moveBoundary tb x
  refine ⟨_, hexec, fun j hj => ?_, ?_⟩
  · have hleft : ∀ k : LeaseNo, endsDrain s.leases[k] tb = true → boundTo (s.moveBoundary tb x).leases[k] j = false :=
      fun k hk => by
        rw [boundTo_of_wiring ((State.sameWiring_moveBoundary hrun).leases k)]
        exact boundTo_other (boundTo_of_endsDrain hk) hj
    rw [htorn.kept j hleft, s.otherTimebasesKept_moveBoundary tb x j hj]
  · have hafter := htorn.timebase (hmove.holdersSound ⟨hcounts, hholders⟩) (congrArg Timebase.run hmoved)
    rw [hmoved] at hafter
    exact hafter

/-! ## RETUNE (R60 to R63) -/

/-- What an engine generates reads the counters alone of the timebases (R89, R92). -/
theorem State.engineNow_of_counters {t : State} (hl : t.leases = s.leases)
    (ht : ∀ j : TimebaseNo, t.timebases[j].counter = s.timebases[j].counter) (hc : ∀ c, t.carrier c = s.carrier c)
    (e : Engine) : t.engineNow e = s.engineNow e := by
  have hcounter : ∀ n, t.counterOf n = s.counterOf n := fun n => by
    unfold State.counterOf
    rw [hl]
    cases s.leases[n] with
    | none => rfl
    | some r => exact ht r.timebase
  cases e with
  | unused => rfl
  | held u => rfl
  | generating u d o => simp only [State.engineNow, State.engineOutput, hcounter, hc]

/-- A settled state whose leases, counters, carriers, engines and pins are kept keeps its outputs. -/
theorem State.outputsKept_of_counters {t : State} (h : s.Settled) (hl : t.leases = s.leases)
    (ht : ∀ j : TimebaseNo, t.timebases[j].counter = s.timebases[j].counter) (hc : ∀ c, t.carrier c = s.carrier c)
    (he : t.engines = s.engines) (hp : t.pins = s.pins) : s.OutputsKept t.refresh := by
  have hnow : ∀ c : ChannelNo, t.engineNow t.engines[c] = s.engineNow s.engines[c] := fun c => by
    rw [he, State.engineNow_of_counters hl ht hc]
  refine ⟨table_ext fun c => ?_, State.pins_refresh_of_shown h hp (fun n => by rw [hl]) fun c => by rw [hnow]⟩
  rw [Fin.getElem_fin, State.engines_refresh, ← Fin.getElem_fin, hnow, State.engineNow_settled h]

theorem State.lowestUnfit_eq_none {period : Nat} (h : ∀ k : LeaseNo, leaseHas s.leases[k] fun q => ¬ q.DutyExceeds tb period) :
    s.lowestUnfit tb period = none :=
  find_finRange_none fun k => by
    have hk := leaseHas_iff.1 (h k)
    cases hq : s.leases[k] with
    | none => rfl
    | some q => simpa [LeaseRecord.dutyExceeds_iff] using hk q hq

/-- A RETUNE that passes its checks stages the period (R60 to R63). -/
theorem performRetune_ok {l : Link} {ps : List Byte} {n : SessionNo} {r : SessionRecord} (h : s.Serves .retune l ps n r)
    (htb : arg ps 1 = tb.val) (hrun : s.timebases[tb].run = some x) (hmay : s.MayRetune n r tb) (hlow : 16 ≤ arg2 ps 2)
    (hhigh : arg2 ps 2 ≤ 4095) (hduties : s.lowestUnfit tb (arg2 ps 2) = none) : performRetune (s.renewed n) n ps
      = .ok ((s.renewed n).setTimebase tb { s.timebases[tb] with run := some { x with staged := some (arg2 ps 2) } },
          goodResponse ([byte tb.val] ++ twoBytes x.period ++ twoBytes (arg2 ps 2))) := by
  have hunfit : (s.renewed n).lowestUnfit tb (arg2 ps 2) = none := hduties
  have hrange : (decide (16 ≤ arg2 ps 2) && decide (arg2 ps 2 ≤ 4095)) = true := by simp [hlow, hhigh]
  simp only [performRetune, need_indexOf htb, (h.mayRetune_iff tb).2 hmay, State.renewed_timebases, hrun, need_some, hrange,
    check_ok, State.checkDuties, hunfit, bind, Except.bind]

/-- Settles O29: the RETUNE passes its checks on the renewed tables, and what it stages is nothing that an output reads. -/
theorem retuneStagesThePeriod : Obligations.RetuneStagesThePeriod := by
  unfold Obligations.RetuneStagesThePeriod
  intro s l ps n r tb x h hsettled htb hrun hauth hlow hhigh hduties
  have hmay : s.MayRetune n r tb := hauth.symm.imp_right fun hheld => ⟨x, hrun, hheld⟩
  have hfit : s.lowestUnfit tb (arg2 ps 2) = none := State.lowestUnfit_eq_none fun k => leaseHas_iff.2 fun q hq => by
    rintro ⟨hbound, ⟨b, hb, hlt⟩ | ⟨st, hst, hlt⟩⟩
    · exact absurd ((leaseHas_iff.1 (hduties k) q hq hbound).1 b hb) (by omega)
    · exact absurd ((leaseHas_iff.1 (hduties k) q hq hbound).2 st hst) (by omega)
  refine ⟨_, State.happen_served h (performRetune_ok h htb hrun hmay hlow hhigh hfit), ?_, fun j hj => ?_, ?_, ?_, ?_, ?_, ?_,
    ⟨?_, ?_⟩, ?_, ?_⟩
  · rw [State.refresh_timebases, State.place_timebases, State.timebase_setTimebase]
  · rw [State.refresh_timebases, State.place_timebases, State.otherTimebasesKept_setTimebase _ tb _ j hj,
      State.renewed_timebases]
  · simp
  · simp
  · simp
  · simp
  · refine State.outputsKept_of_counters hsettled (by simp) (fun j => ?_) (fun c => by cases c <;> simp [State.carrier])
      (by simp) (by simp)
    rw [State.place_timebases, Fin.getElem_fin, State.timebases_setTimebase]
    split
    · rename_i hj
      rw [Fin.ext hj]
    · rfl
  · simp
  · simp
  · exact State.renews_renewed h (by simp)
  · exact State.answered_of_kept l _ (by simp) (by simp) (by simp) (by simp) (by simp) (by simp)

end Sys2Proof.Machine
end

section
/-! The timebases in their ranges and the duties within their periods, through a step (R46, R53, R88): what each move of the
tables makes of a timebase record, and of a lease's duties under it. -/

namespace Sys2Proof.Machine

variable {s : State} {tb : TimebaseNo} {x : TimebaseRun}

/-! ## The ranges of one timebase record (R46) -/

/-- The ranges of the periods of a timebase that runs (R46). -/
def TimebaseRun.PeriodsInRange (x : TimebaseRun) : Prop :=
  16 ≤ x.period ∧ x.period ≤ 4095 ∧ 16 ≤ x.coming ∧ x.coming ≤ 4095

theorem Timebase.inRange_idle {t : Timebase} (h : t.run = none) : t.InRange ↔ t.counter = 0 := by
  simp only [Timebase.InRange, h]

theorem Timebase.inRange_running {t : Timebase} (h : t.run = some x) :
    t.InRange ↔ x.PeriodsInRange ∧ (if x.startPending then t.counter = 0 else t.counter < x.period) := by
  simp only [Timebase.InRange, TimebaseRun.PeriodsInRange, h, and_assoc]

theorem Timebase.InRange.recount {t : Timebase} (h : t.InRange) (old new : Nat) : (t.recount old new).InRange := h

/-- A settled timebase stays in range: IDLE with its counter 0, or with another holder alone (R64, R65). -/
theorem Timebase.InRange.settle {t : Timebase} (h : t.InRange) (ls : Vector Lease 16) (tb : TimebaseNo) :
    (t.settle ls tb).InRange := by
  unfold Timebase.settle
  split
  · exact h
  next r hr =>
    rw [Timebase.inRange_running hr] at h
    split
    · exact (Timebase.inRange_idle rfl).2 rfl
    split
    · exact (Timebase.inRange_running hr).2 h
    split
    · exact (Timebase.inRange_running hr).2 h
    next k _ => exact (Timebase.inRange_running (x := { r with holder := k }) rfl).2 h

/-- A timebase that a claim starts has the claimed period and its counter at 0 (R39, R51). -/
theorem Timebase.InRange.start {t : Timebase} (h : t.InRange) {period : Nat} (c : Fin 8) (k : LeaseNo)
    (hp : t.run = none → 16 ≤ period ∧ period ≤ 4095) : (t.start period c k).InRange := by
  unfold Timebase.start
  split
  · exact h
  next hr =>
    obtain ⟨hlow, hhigh⟩ := hp hr
    have hperiods : ({ period := period, staged := none, holder := k, startPending := true } : TimebaseRun).PeriodsInRange :=
      ⟨hlow, hhigh, hlow, hhigh⟩
    exact (Timebase.inRange_running rfl).2 ⟨hperiods, (Timebase.inRange_idle hr).1 h⟩

theorem Timebase.InRange.counted {t : Timebase} (h : t.InRange) (hrun : t.run = some x) (hstarted : x.startPending = false) :
    ({ t with counter := t.counter - 1 } : Timebase).InRange := by
  obtain ⟨hperiods, hcounter⟩ := (Timebase.inRange_running hrun).1 h
  rw [hstarted] at hcounter
  refine (Timebase.inRange_running (t := { t with counter := t.counter - 1 }) hrun).2 ⟨hperiods, ?_⟩
  rw [hstarted]
  exact lt_of_le_of_lt (Nat.sub_le _ _) hcounter

theorem Timebase.InRange.retuned {t : Timebase} (h : t.InRange) (hrun : t.run = some x) {period : Nat}
    (hp : 16 ≤ period ∧ period ≤ 4095) :
    ({ t with run := some { x with staged := some period } } : Timebase).InRange := by
  obtain ⟨⟨hlow, hhigh, -⟩, hcounter⟩ := (Timebase.inRange_running hrun).1 h
  exact (Timebase.inRange_running (x := { x with staged := some period }) rfl).2 ⟨⟨hlow, hhigh, hp⟩, hcounter⟩

/-- A boundary puts the coming period in force and loads the counter with one less (R50, R53). -/
theorem Timebase.InRange.atBoundary {t : Timebase} (h : t.InRange) (hrun : t.run = some x) : (t.atBoundary x).InRange := by
  obtain ⟨⟨-, -, hlow, hhigh⟩, -⟩ := (Timebase.inRange_running hrun).1 h
  have hperiods : ({ x with period := x.coming, staged := none, startPending := false } : TimebaseRun).PeriodsInRange :=
    ⟨hlow, hhigh, hlow, hhigh⟩
  exact (Timebase.inRange_running rfl).2 ⟨hperiods, Nat.sub_lt (by omega) one_pos⟩

/-! ## The ranges through the moves -/

theorem State.TimebasesInRange.setLeases (h : s.TimebasesInRange) (ls : Vector Lease 16) :
    (s.setLeases ls).TimebasesInRange := fun j => by
  rw [Fin.getElem_fin, State.timebases_setLeases]
  exact (h j).recount _ _

theorem State.TimebasesInRange.setTimebase (h : s.TimebasesInRange) {y : Timebase} (hy : y.InRange) :
    (s.setTimebase tb y).TimebasesInRange := fun j => by
  by_cases hj : j = tb
  · rw [hj, State.timebase_setTimebase]
    exact hy
  · rw [s.otherTimebasesKept_setTimebase tb y j hj]
    exact h j

theorem State.TimebasesInRange.freeLeases (h : s.TimebasesInRange) (w : LeaseNo → Bool) :
    (s.freeLeases w).TimebasesInRange := fun j => by
  rw [Fin.getElem_fin, State.timebases_freeLeases]
  split
  · exact ((h j).recount _ _).settle _ _
  · exact (h j).recount _ _

section claim

variable {q : ClaimRequest} {k : LeaseNo} {g : Nat} {placed : List (Nat × ChannelNo)}

theorem State.ClaimFits.agrees (hf : s.ClaimFits q k g placed) :
    s.timebases[q.timebase].Agrees q ∧ g = s.timebases[q.timebase].governing q := by
  have hg := hf.timebase
  by_cases h : s.timebases[q.timebase].Agrees q
  · rw [State.checkTimebase_ok h] at hg
    exact ⟨h, (Except.ok.inj hg).symm⟩
  · cases hr : s.timebases[q.timebase].run with
    | none =>
      rw [Timebase.Agrees, hr, not_not] at h
      rw [State.checkTimebase_idle hr h] at hg
      cases hg
    | some x =>
      rw [State.checkTimebase_conflict hr h] at hg
      cases hg

/-- A claim that starts its timebase gives a period, which is in range (R26, R31). -/
theorem State.ClaimFits.period (hf : s.ClaimFits q k g placed) (hrun : s.timebases[q.timebase].run = none) :
    16 ≤ q.period ∧ q.period ≤ 4095 := by
  have hne := hf.agrees.1
  rw [Timebase.Agrees, hrun] at hne
  obtain ⟨ps, hspelled⟩ := hf.spelled
  obtain ⟨-, hrange, -⟩ := hspelled.fit
  rw [hspelled.period] at hrange
  exact hrange.resolve_left hne

/-- Each claimed duty is within the period that governs it, and the period in force (R32). -/
theorem State.ClaimFits.dutyPasses (hf : s.ClaimFits q k g placed) {b : ClaimBlock} (hb : b ∈ q.blocks) :
    s.timebases[q.timebase].DutyPasses q b.settings.duty := by
  have hd := hf.duties b hb
  rw [hf.agrees.2] at hd
  exact State.claimDutyFits_iff.1 hd

theorem State.TimebasesInRange.performClaim (h : s.TimebasesInRange) (hf : s.ClaimFits q k g placed) (n : SessionNo)
    (bs : List Binding) : (s.performClaim n q k bs).TimebasesInRange := by
  refine State.TimebasesInRange.setTimebase ?_ (Timebase.InRange.start ?_ _ _ fun hrun => hf.period ?_)
  · exact State.TimebasesInRange.setLeases h _
  · exact State.TimebasesInRange.setLeases h _ q.timebase
  · rwa [State.putLease, State.run_setLeases] at hrun

end claim

/-- Each move of the tables keeps every timebase in its ranges. -/
theorem State.TableMove.timebasesInRange {s t : State} (hm : State.TableMove s t) (h : s.TimebasesInRange) :
    t.TimebasesInRange := by
  cases hm with
  | same hs => exact fun j => hs.timebases ▸ h j
  | reset => exact fun j => by rw [State.timebase_fullReset]; rfl
  | tripped reached cause => exact fun j => by rw [State.timebases_takeTrip]; exact h j
  | freed which => exact h.freeLeases which
  | claimed n hf => exact h.performClaim hf n _
  | amended => exact State.TimebasesInRange.setLeases h _
  | drained => exact State.TimebasesInRange.setLeases h _
  | cleared => exact h.setLeases _
  | adopted => exact h.setLeases _
  | @counted tb x run started => exact h.setTimebase ((h tb).counted run started)
  | @retuned tb x period run range => exact h.setTimebase ((h tb).retuned run range)
  | @boundary tb x run =>
    intro j
    by_cases hj : j = tb
    · rw [hj, State.timebase_moveBoundary]
      exact (h tb).atBoundary run
    · rw [s.otherTimebasesKept_moveBoundary tb x j hj]
      exact h j

/-! ## The duties of one lease record (R53, R88) -/

/-- A record of the same bindings that stages nothing has its duties within the same periods. -/
theorem LeaseRecord.DutiesWithin.unstaged {r r' : LeaseRecord} (h : r.DutiesWithin x) (hb : r'.bindings = r.bindings)
    (hs : r'.stagedChange = []) : r'.DutiesWithin x := by
  rw [LeaseRecord.DutiesWithin, hb, hs]
  exact ⟨h.1, by simp⟩

theorem LeaseRecord.stagedChange_trip (r : LeaseRecord) (c : Source) : (r.trip c).stagedChange = [] := by
  cases hp : r.phase <;> simp [LeaseRecord.trip, Phase.trip, LeaseRecord.stagedChange, hp]

/-- A boundary leaves no staged change (R55). -/
theorem LeaseRecord.stagedChange_atBoundary (r : LeaseRecord) : r.atBoundary.stagedChange = [] := by
  unfold LeaseRecord.atBoundary
  cases hp : r.phase with
  | draining plan => cases plan <;> simp [LeaseRecord.stagedChange, hp]
  | _ => simp [LeaseRecord.stagedChange, hp]

/-- An active duty after a boundary is one that was active before it, lowered or not, or one that was staged (R54 to R58). -/
theorem LeaseRecord.duty_atBoundary {r : LeaseRecord} {b' : Binding} (h : b' ∈ r.atBoundary.bindings) :
    (∃ b ∈ r.bindings, b'.active.duty ≤ b.active.duty) ∨ ∃ st ∈ r.stagedChange, b'.active.duty ≤ st.duty := by
  unfold LeaseRecord.atBoundary at h
  split at h
  case h_2 staged hp =>
    obtain ⟨i, hi⟩ := List.mem_iff_getElem?.1 h
    rw [getElem?_commitBindings, Option.map_eq_some_iff] at hi
    obtain ⟨b, hb, rfl⟩ := hi
    cases hst : staged[i]? with
    | none => exact .inl ⟨b, List.mem_of_getElem? hb, by simp⟩
    | some st => exact .inr ⟨st, by rw [LeaseRecord.stagedChange, hp]; exact List.mem_of_getElem? hst, by simp⟩
  case h_3 step hp =>
    obtain ⟨b, hb, rfl⟩ := List.mem_map.1 h
    exact .inl ⟨b, hb, Nat.sub_le _ _⟩
  all_goals exact .inl ⟨b', h, le_rfl⟩

/-- A boundary's moves keep a lease's duties within the period that it puts in force (R53, R88). -/
theorem LeaseRecord.DutiesWithin.atBoundary {r : LeaseRecord} (h : r.DutiesWithin x) :
    r.atBoundary.DutiesWithin { x with period := x.coming, staged := none, startPending := false } := by
  refine ⟨fun b hb => ?_, by simp [LeaseRecord.stagedChange_atBoundary]⟩
  have hcoming : b.active.duty ≤ x.coming := by
    rcases LeaseRecord.duty_atBoundary hb with ⟨b₀, hb₀, hle⟩ | ⟨st, hst, hle⟩
    · exact hle.trans (h.1 b₀ hb₀).2
    · exact hle.trans (h.2 st hst)
  exact ⟨hcoming, hcoming⟩

/-! ## The duties through the moves -/

/-- The rule of the duties read lease by lease (R48, R53, R88). It is a structure so that a proof's elaboration does not look
for a lease number behind it. -/
structure State.DutiesGoverned (s : State) : Prop where
  within : ∀ (n : LeaseNo) r, s.leases[n] = some r → ∃ x, s.timebases[r.timebase].run = some x ∧ r.DutiesWithin x

theorem State.dutiesGoverned_iff : s.DutiesGoverned ↔ s.DutiesFit := by
  have hfit : s.DutiesFit ↔ ∀ (n : LeaseNo) r, s.leases[n] = some r →
      ∃ x, s.timebases[r.timebase].run = some x ∧ r.DutiesWithin x := by
    simp only [State.DutiesFit, leaseHas_iff]
    refine forall₃_congr fun n r _ => ?_
    cases s.timebases[r.timebase].run <;> simp
  exact ⟨fun h => hfit.2 h.within, fun h => ⟨hfit.1 h⟩⟩

/-- The duties fit as before where each lease comes of one on the same timebase, its duties within the periods that this has
come to. -/
theorem State.DutiesGoverned.of_kept {t : State} (h : s.DutiesGoverned) (hk : ∀ (n : LeaseNo) r', t.leases[n] = some r' →
      ∃ r, s.leases[n] = some r ∧ r'.timebase = r.timebase ∧ ∀ x, s.timebases[r.timebase].run = some x →
        r.DutiesWithin x → ∃ y, t.timebases[r.timebase].run = some y ∧ r'.DutiesWithin y) : t.DutiesGoverned := by
  refine ⟨fun n r' hr' => ?_⟩
  obtain ⟨r, hr, htb, hduties⟩ := hk n r' hr'
  obtain ⟨x, hx, hwithin⟩ := h.within n r hr
  simpa only [htb] using hduties x hx hwithin

theorem State.DutiesGoverned.of_same {t : State} (h : s.DutiesGoverned) (hs : s.SameTables t) : t.DutiesGoverned := by
  refine ⟨fun n r hr => ?_⟩
  rw [hs.leases] at hr
  rw [hs.timebases]
  exact h.within n r hr

theorem State.DutiesGoverned.takeTrip (h : s.DutiesGoverned) (reached : LeaseRecord → Bool) (cause : Source) :
    (s.takeTrip reached cause).DutiesGoverned := by
  refine h.of_kept fun n r' hr' => ?_
  rw [Fin.getElem_fin, State.leases_takeTrip, Option.map_eq_some_iff] at hr'
  obtain ⟨r, hr, rfl⟩ := hr'
  rw [State.timebases_takeTrip]
  refine ⟨r, hr, by split <;> rfl, fun x hx hwithin => ⟨x, hx, ?_⟩⟩
  split
  · exact hwithin.unstaged rfl (r.stagedChange_trip cause)
  · exact hwithin

/-- A lease that is not freed keeps the periods of its timebase, which is not left without bindings (R64, R65). -/
theorem State.run_freeLeases (hc : s.CountsAgree) (hs : s.LeasesShaped) {w : LeaseNo → Bool} {n : LeaseNo} {r : LeaseRecord}
    (hn : w n = false) (hr : s.leases[n] = some r) (hx : s.timebases[r.timebase].run = some x) :
    ∃ y, (s.freeLeases w).timebases[r.timebase].run = some { x with holder := y } := by
  rcases freed_bound_or s.leases w r.timebase with hnone | ⟨k, hw, hk⟩
  · exact ⟨x.holder, by rw [State.timebases_freeLeases_kept hnone, hx]⟩
  · have hr' : (freedLeases s.leases w)[n] = some r := by
      rw [getElem_freedLeases, hn]
      exact hr
    rcases State.timebases_left_cases hc hx hw hk with ⟨h0, -⟩ | ⟨-, y, -, hy⟩
    · exact absurd h0 (bindingsOn_ne_zero hr' rfl (leaseHas_iff.1 (hs n) r hr))
    · exact ⟨y, by rw [hy]⟩

theorem State.DutiesGoverned.freeLeases (h : s.DutiesGoverned) (hc : s.CountsAgree) (hs : s.LeasesShaped) (w : LeaseNo → Bool) :
    (s.freeLeases w).DutiesGoverned := by
  refine h.of_kept fun n r hr => ?_
  rw [State.leases_freeLeases_eq, getElem_freedLeases, Option.ite_none_left_eq_some, Bool.not_eq_true] at hr
  obtain ⟨hn, hr⟩ := hr
  refine ⟨r, hr, rfl, fun x hx hwithin => ?_⟩
  obtain ⟨y, hy⟩ := State.run_freeLeases hc hs hn hr hx
  exact ⟨_, hy, hwithin⟩

theorem State.DutiesGoverned.mapEngines (h : s.DutiesGoverned) (f : LeaseNo → Engine → Engine) : (s.mapEngines f).DutiesGoverned := ⟨h.within⟩

theorem State.comingPeriod_of_run (s : State) (hx : s.timebases[tb].run = some x) : s.comingPeriod tb = x.coming := by
  rw [State.comingPeriod, hx]

/-- One lease given another record on its timebase, its duties within the same periods. -/
theorem State.DutiesGoverned.putLease (h : s.DutiesGoverned) {k : LeaseNo} {r r' : LeaseRecord} (hr : s.leases[k] = some r)
    (htb : r'.timebase = r.timebase)
    (hd : ∀ x, s.timebases[r.timebase].run = some x → r.DutiesWithin x → r'.DutiesWithin x) :
    (s.putLease k (some r')).DutiesGoverned := by
  refine h.of_kept fun n r₁ hr₁ => ?_
  simp only [State.putLease, State.run_setLeases]
  rw [Fin.getElem_fin, State.leases_putLease] at hr₁
  split at hr₁
  · rename_i hn
    obtain rfl := Fin.ext hn
    obtain rfl := Option.some.inj hr₁
    exact ⟨r, hr, htb, fun x hx hwithin => ⟨x, hx, hd x hx hwithin⟩⟩
  · exact ⟨r₁, hr₁, rfl, fun x hx hwithin => ⟨x, hx, hwithin⟩⟩

/-- One timebase given another record, with the duties of the leases on it within its periods. -/
theorem State.DutiesGoverned.setTimebase (h : s.DutiesGoverned) (hrun : s.timebases[tb].run = some x) {y : Timebase} {z : TimebaseRun}
    (hy : y.run = some z) (hd : ∀ (n : LeaseNo) r, s.leases[n] = some r → r.timebase = tb → r.DutiesWithin x →
      r.DutiesWithin z) : (s.setTimebase tb y).DutiesGoverned := by
  refine h.of_kept fun n r hr => ⟨r, hr, rfl, fun v hv hwithin => ?_⟩
  by_cases htb : r.timebase = tb
  · subst htb
    obtain rfl := Option.some.inj (hrun.symm.trans hv)
    exact ⟨z, by rw [State.timebase_setTimebase, hy], hd n r hr rfl hwithin⟩
  · exact ⟨v, by rw [s.otherTimebasesKept_setTimebase tb y _ htb, hv], hwithin⟩

/-- A period that RETUNE's check lets pass is one that every duty on its timebase fits (R62). -/
theorem LeaseRecord.DutiesWithin.retuned {r : LeaseRecord} (h : r.DutiesWithin x) (htb : r.timebase = tb) {period : Nat}
    (hfit : ¬ r.DutyExceeds tb period) : r.DutiesWithin { x with staged := some period } := by
  simp only [LeaseRecord.DutyExceeds, htb, true_and, not_or, not_exists, not_and, not_lt] at hfit
  exact ⟨fun b hb => ⟨(h.1 b hb).1, hfit.1 b hb⟩, hfit.2⟩

theorem State.not_dutyExceeds {period : Nat} (h : s.lowestUnfit tb period = none) {n : LeaseNo} {r : LeaseRecord}
    (hr : s.leases[n] = some r) : ¬ r.DutyExceeds tb period := by
  have hn := List.find?_eq_none.1 h n (List.mem_finRange n)
  rw [hr] at hn
  rwa [LeaseRecord.dutyExceeds_iff]

theorem State.DutiesGoverned.moveBoundary (h : s.DutiesGoverned) (hrun : s.timebases[tb].run = some x) :
    (s.moveBoundary tb x).DutiesGoverned := by
  refine h.of_kept fun n r' hr' => ?_
  rw [Fin.getElem_fin, State.leases_moveBoundary, Option.map_eq_some_iff] at hr'
  obtain ⟨r, hr, rfl⟩ := hr'
  by_cases htb : r.timebase = tb
  · subst htb
    rw [if_pos rfl]
    refine ⟨r, hr, ?_, fun v hv hwithin => ?_⟩
    · exact congrArg Prod.fst (Option.some.inj (leaseWiring_atBoundary r))
    · obtain rfl := Option.some.inj (hrun.symm.trans hv)
      exact ⟨_, by rw [State.timebase_moveBoundary]; rfl, hwithin.atBoundary⟩
  · rw [if_neg htb]
    exact ⟨r, hr, rfl, fun v hv hwithin => ⟨v, by rw [s.otherTimebasesKept_moveBoundary tb x _ htb, hv], hwithin⟩⟩

/-- A claimed lease's duties are within the periods of the timebase that it joins or starts (R32, R39, R40). -/
theorem State.ClaimFits.dutiesWithin {q : ClaimRequest} {k : LeaseNo} {g : Nat} {placed : List (Nat × ChannelNo)}
    (hf : s.ClaimFits q k g placed) (n : SessionNo) : (q.record n (q.bindings placed)).DutiesWithin
      (s.timebases[q.timebase].run.getD { period := q.period, staged := none, holder := k, startPending := true }) := by
  refine ⟨fun b hb => ?_, by simp [ClaimRequest.record, LeaseRecord.stagedChange]⟩
  obtain ⟨i, hi⟩ := List.mem_iff_getElem?.1 hb
  rw [ClaimRequest.record, ClaimRequest.getElem?_bindings, Option.map_eq_some_iff] at hi
  obtain ⟨a, ha, rfl⟩ := hi
  have hpass := hf.dutyPasses (List.mem_of_getElem? ha)
  unfold Timebase.DutyPasses at hpass
  cases hr : s.timebases[q.timebase].run with
  | none =>
    rw [hr] at hpass
    exact ⟨hpass, hpass⟩
  | some x =>
    rw [hr] at hpass
    exact hpass.symm

theorem State.DutiesGoverned.performClaim (h : s.DutiesGoverned) {q : ClaimRequest} {k : LeaseNo} {g : Nat}
    {placed : List (Nat × ChannelNo)} (hf : s.ClaimFits q k g placed) (n : SessionNo) :
    (s.performClaim n q k (q.bindings placed)).DutiesGoverned := by
  refine ⟨fun j r hr => ?_⟩
  rw [Fin.getElem_fin, State.leases_performClaim] at hr
  split at hr
  · obtain rfl := Option.some.inj hr
    exact ⟨_, (State.run_performClaim ..).trans (if_pos rfl), hf.dutiesWithin n⟩
  · obtain ⟨x, hx, hwithin⟩ := h.within j r hr
    exact ⟨x, by rw [State.run_performClaim, hx]; exact ite_self _, hwithin⟩

/-! ## Every move -/

/-- The rules of the timebases and the duties, with those that they rest on (R2, R46, R48, R53, R88, R100). -/
structure State.DutiesSound (s : State) : Prop where
  counts : s.CountsAgree
  shaped : s.LeasesShaped
  ranges : s.TimebasesInRange
  duties : s.DutiesGoverned

theorem State.TableMove.dutiesGoverned {s t : State} (hm : State.TableMove s t) (h : s.DutiesSound) : t.DutiesGoverned := by
  have hduties := h.duties
  cases hm with
  | same hs => exact hduties.of_same hs
  | reset => exact ⟨fun n r hr => by rw [State.lease_fullReset] at hr; cases hr⟩
  | tripped reached cause => exact hduties.takeTrip reached cause
  | freed which => exact hduties.freeLeases h.counts h.shaped which
  | claimed n hf => exact hduties.performClaim hf n
  | amended hf =>
    refine (hduties.mapEngines _).putLease hf.lease rfl fun x hx hwithin => ⟨hwithin.1, fun st hst => ?_⟩
    have hcoming : s.comingPeriod _ = x.coming := s.comingPeriod_of_run hx
    exact hcoming ▸ hf.duties st hst
  | drained hr => exact (hduties.mapEngines _).putLease hr rfl fun x _ hwithin => hwithin.unstaged rfl rfl
  | cleared hr before after =>
    refine hduties.putLease hr rfl fun x _ hwithin => hwithin.unstaged rfl ?_
    rcases after with rfl | ⟨causes, p, rfl, -⟩ <;> rfl
  | adopted n hr => exact hduties.putLease hr rfl fun x _ hwithin => hwithin
  | counted run => exact hduties.setTimebase run run fun _ _ _ _ hwithin => hwithin
  | retuned run range unfit =>
    exact hduties.setTimebase run rfl fun n r hr htb hwithin => hwithin.retuned htb (State.not_dutyExceeds unfit hr)
  | boundary run => exact hduties.moveBoundary run

theorem State.TableMove.dutiesSound {s t : State} (hm : State.TableMove s t) (h : s.DutiesSound) : t.DutiesSound :=
  ⟨hm.countsAgree h.counts, hm.leasesShaped h.shaped, hm.timebasesInRange h.ranges, hm.dutiesGoverned h⟩

/-- Settles O55: every move of the tables keeps the ranges, and keeps the duties with the counts and shapes, by which a lease
that stays keeps its timebase running. -/
theorem stepsKeepTheDuties : Obligations.StepsKeepTheDuties := by
  unfold Obligations.StepsKeepTheDuties
  intro s t hcounts hshaped _ hranges hduties hstep
  have hsound := State.invariant_step (fun _ _ hm => hm.dutiesSound) hstep 
    ⟨hcounts, hshaped, hranges, State.dutiesGoverned_iff.2 hduties⟩
  exact ⟨hsound.ranges, State.dutiesGoverned_iff.1 hsound.duties⟩

end Sys2Proof.Machine
end

section
/-! An accepted AMEND (R68 to R74): the change that its bytes spell is staged in the lease and in the lease's engines, which
go on generating from their active settings, and nothing else of the part moves. -/

namespace Sys2Proof.Machine

variable {s t : State} {k : LeaseNo} {x : LeaseRecord}

/-! ## Changes of what an engine holds that leave what it shows -/

/-- The count an engine follows depends on its lease's timebase and the timebases. -/
theorem State.counterOf_of_wiring {n : LeaseNo} (hl : leaseWiring t.leases[n] = leaseWiring s.leases[n])
    (ht : t.timebases = s.timebases) : t.counterOf n = s.counterOf n := by
  unfold State.counterOf
  rw [ht]
  cases hs : s.leases[n] with
  | none =>
    have hnone : t.leases[n] = none := by simpa [leaseWiring, hs, -Fin.getElem_fin] using hl
    rw [hnone]
  | some r =>
    obtain ⟨r', hr', htb, -⟩ := exists_of_wiring hl.symm hs
    simp only [hr', htb]

/-- What a generating engine shows depends on its place, its active settings, the counts and the carriers' levels (R86, R89,
R92). -/
theorem State.shown_mapUse {f : EngineUse → EngineUse} (hf : ∀ u, (f u).place = u.place ∧ (f u).active = u.active)
    (hcount : ∀ n, t.counterOf n = s.counterOf n) (hwave : s.WavesKept t) (e : Engine) :
    (t.engineNow (e.mapUse f)).shown = (s.engineNow e).shown := by
  cases e with
  | unused => rfl
  | held u => rfl
  | generating u d o =>
    obtain ⟨hplace, hactive⟩ := hf u
    have hout : t.engineOutput (f u) d = s.engineOutput u d := by
      simp only [State.engineOutput, hplace, hactive, hcount, (hwave _).2]
    simp only [Engine.mapUse, State.engineNow, Engine.shown, hout, hactive]

/-- A change of what an engine holds moves that alone, and the engine generates or not as before. -/
theorem Engine.use?_mapUse (f : EngineUse → EngineUse) (e : Engine) :
    (e.mapUse f).isGenerating = e.isGenerating ∧ (e.mapUse f).use? = e.use?.map f := by
  cases e <;> exact ⟨rfl, rfl⟩

/-! ## The staged change -/

/-- What an engine holds once lease `k` has been given a staged change: an engine of the lease holds the settings of its
binding, and any other holds what it held (R73, R74). -/
def EngineUse.stagedFor (k : LeaseNo) (staged : List Settings) (u : EngineUse) : EngineUse :=
  if u.place.lease = k then { u with staged := staged[u.place.index]? } else u

theorem EngineUse.stagedFor_keeps (k : LeaseNo) (staged : List Settings) (u : EngineUse) :
    (u.stagedFor k staged).place = u.place ∧ (u.stagedFor k staged).active = u.active := by
  unfold EngineUse.stagedFor
  split <;> exact ⟨rfl, rfl⟩

/-- A staged change reaches the engines through what they hold alone (R73, R74). -/
theorem State.engines_stageChange (x : LeaseRecord) (staged : List Settings) (c : ChannelNo) :
    (s.stageChange k x staged).engines[c] = s.engines[c].mapUse (EngineUse.stagedFor k staged) := by
  simp only [State.stageChange, State.putLease_engines, Fin.getElem_fin, State.engines_mapEngines]
  cases s.engines[c.val] with
  | unused => rfl
  | held u | generating u d o =>
    by_cases hu : u.place.lease = k <;> simp [Engine.lease?, hu, Engine.stage, Engine.mapUse, EngineUse.stagedFor]

theorem State.timebases_stageChange (hx : s.leases[k] = some x) (staged : List Settings) :
    (s.stageChange k x staged).timebases = s.timebases :=
  State.timebases_putLease (s := s.mapEngines fun n e => if n = k then e.stage staged else e) hx rfl

theorem State.wavesKept_stageChange (s : State) (k : LeaseNo) (x : LeaseRecord) (staged : List Settings) :
    s.WavesKept (s.stageChange k x staged) := fun c => by
  have hkept := (s.mapEngines fun n e => if n = k then e.stage staged else e).wavesKept_setLeases
    (putAt s.leases k (some { x with phase := .amendPending staged })) c
  cases c <;> exact hkept

/-- The in-use counts are those of the lease table with the staged change in it (R73, R74, R100). -/
theorem State.countsAgree_stageChange (h : s.CountsAgree) (x : LeaseRecord) (staged : List Settings) :
    (s.stageChange k x staged).CountsAgree :=
  State.countsAgree_setLeases _ (h.congr rfl (fun _ => rfl) fun c => by cases c <;> rfl)

theorem State.leaseShown_stageChange (hx : s.leases[k] = some x) (hp : x.phase.amendable = true) (staged : List Settings)
    (n : LeaseNo) : leaseShown (s.stageChange k x staged).leases[n] = leaseShown s.leases[n] := by
  rw [Fin.getElem_fin, State.leases_stageChange]
  split
  · rename_i hn
    obtain rfl := Fin.ext hn
    rw [hx, leaseShown, leaseShown, Option.map_some, Option.map_some, Phase.showsSafe_of_amendable hp]
    rfl
  · rfl

theorem State.counterOf_stageChange (hx : s.leases[k] = some x) (staged : List Settings) (n : LeaseNo) :
    (s.stageChange k x staged).counterOf n = s.counterOf n := by
  have hw : s.SameWiring (s.stageChange k x staged) :=
    State.sameWiring_put (fun n e => by split <;> simp) hx rfl
  exact State.counterOf_of_wiring (hw.leases n) (State.timebases_stageChange hx staged)

/-! ## The command -/

/-- An AMEND by the lease's holder, its blocks spelled and its change fitting the lease and the carriers, stages the change
(R69 to R74). -/
theorem performAmend_passes {l : Link} {ps : List Byte} {n : SessionNo} {r : SessionRecord} {staged : List Settings}
    (h : s.Serves .amend l ps n r) (hk : arg ps 1 = k.val) (hholder : x.holder = n)
    (hcarried : arg ps 2 = (ps.length - 3) / 4) (hbound : arg ps 2 = x.bindings.length)
    (hspelled : AmendSpelled ps x.bindings staged) (hf : s.AmendFits k x staged) (hgates : ∀ st ∈ staged, s.GatePasses st) :
    performAmend (s.renewed n) n ps = .ok ((s.renewed n).stageChange k x staged,
      goodResponse ([byte k.val, 3, x.generation] ++ twoBytes (s.comingPeriod x.timebase))) := by
  have hauth := h.checkHolder (may := false) k (by simp) (.inl ⟨.inl rfl, heldBy_iff.2 ⟨x, hf.lease, hholder⟩⟩)
  have hphase : checkPhase (s.renewed n).leases[k] Phase.amendable = .ok x := checkPhase_ok hf.lease hf.phase
  have hcheck : check (arg ps 2 == (ps.length - 3) / 4 && arg ps 2 == x.bindings.length) .badArgument 0xFF = .ok () :=
    check_eq_ok.2 (by rw [Bool.and_eq_true, beq_iff_eq, beq_iff_eq]; exact ⟨hcarried, hbound⟩)
  have hblocks := readAmendBlocks_eq_ok.2 ⟨hf.spelled.1, hspelled⟩
  have hduties := checkEach_ok (ok := fun st : Settings => decide (st.duty ≤ (s.renewed n).comingPeriod x.timebase))
    (fun _ => decide_eq_true_iff) hf.duties
  simp only [performAmend, readLease_ok hk, hauth, hphase, hcheck, hblocks, hduties, checkEach_ok (fun _ => Iff.rfl) hf.safe,
    checkEach_ok (fun _ => (s.renewed n).gateRunning_iff) hgates, bind, Except.bind]
  rfl

/-- Settles O26: the AMEND passes its checks and stages the change, by which no engine, pin, timebase or carrier shows
anything else. -/
theorem amendStagesTheChange : Obligations.AmendStagesTheChange := by
  unfold Obligations.AmendStagesTheChange
  intro s l ps n r k x staged y h hsettled hcounts hk hx hholder hphase hcarried hbound hlen hspelled hy hduties hsafe hgates
  have hp : x.phase.amendable = true := by rcases hphase with hp | ⟨old, hp⟩ <;> rw [hp] <;> rfl
  have hcoming := s.comingPeriod_of_run hy
  have hfits : s.AmendFits k x staged :=
    ⟨hx, hp, ⟨hlen, ps, hspelled⟩, hcoming ▸ hduties, fun z hz => amendSafeFits_iff.2 (hsafe z hz)⟩
  have hperform := performAmend_passes h hk hholder hcarried hbound hspelled hfits hgates
  rw [hcoming] at hperform
  have hx' : (s.renewed n).leases[k] = some x := hx
  refine ⟨_, State.happen_served h hperform, ?_, fun j hj => ?_, fun c => ?_, ?_, by simp, ?_, fun c => ?_, fun c => ?_, ?_,
    ?_, ?_⟩
  · simp
  · simp [Fin.val_ne_of_ne hj]
  · rw [Fin.getElem_fin, State.engines_refresh, (State.use?_engineNow _ _).1, (State.use?_engineNow _ _).2,
      State.place_engines, ← Fin.getElem_fin, State.engines_stageChange]
    exact Engine.use?_mapUse _ _
  · refine State.pins_refresh_of_shown hsettled (by simp) (fun j => ?_) fun c => ?_
    · rw [State.place_leases]
      exact State.leaseShown_stageChange hx' hp staged j
    · rw [State.place_engines, State.engineNow_congr (s := (s.renewed n).stageChange k x staged) (by simp) (by simp) (by simp)
        (by simp), State.engines_stageChange]
      exact State.shown_mapUse (EngineUse.stagedFor_keeps k staged) (State.counterOf_stageChange hx' staged)
        (State.wavesKept_stageChange (s.renewed n) k x staged) _
  · rw [State.refresh_timebases, State.place_timebases, State.timebases_stageChange hx', State.renewed_timebases]
  · have hc := (s.renewed n).wavesKept_stageChange k x staged c
    cases c <;> simpa [State.carrier] using hc
  · have hc := (State.countsAgree_stageChange (k := k) (hcounts.renewed n) x staged).2 c
    cases c <;> simpa [State.carrier] using hc
  · exact State.renews_renewed h (by simp)
  · constructor <;> simp
  · exact State.answered_of_kept l _ (by simp) (by simp) (by simp) (by simp) (by simp) (by simp)

end Sys2Proof.Machine
end

section
/-! The outputs in the manual's own terms (R86, R89 to R92, R95, R151): where the tables agree, a state is settled exactly
when each engine, pin and attention line shows what its rule gives. -/

namespace Sys2Proof.Machine

variable {s : State}

/-! ## Settled, output by output -/

/-- A state is settled when every engine, pin and attention line is as it would be brought up to date. -/
theorem State.settled_iff : s.Settled ↔ (∀ c : ChannelNo, s.engineNow s.engines[c] = s.engines[c])
    ∧ (∀ p : PinNo, s.pins[p].level = s.levelOf s.pins[p]) ∧ ∀ l, (s.link l).attention = s.attentionOf l := by
  have hlevel (hnow : ∀ c : ChannelNo, s.engineNow s.engines[c] = s.engines[c]) (p : PinNo) :
      s.refreshEngines.levelOf s.pins[p] = s.levelOf s.pins[p] :=
    State.levelOf_congr s.leases_refreshEngines
      (table_ext fun c => by rw [State.refreshEngines, mapTable_at, hnow]) rfl rfl
  constructor
  · intro h
    have hnow := State.engineNow_settled h
    refine ⟨hnow, fun p => ?_, fun l => ?_⟩
    · rw [← hlevel hnow]
      exact (congrArg PinEntry.level (State.levelOf_settled h p.val p.isLt)).symm
    · have hlink := State.link_refresh s l
      rw [show s.refresh = s from h] at hlink
      exact congrArg LinkPort.attention hlink
  · rintro ⟨hnow, hpins, hlines⟩
    have hengines : s.refresh.engines = s.engines := table_ext fun c => by
      rw [Fin.getElem_fin, State.engines_refresh, ← Fin.getElem_fin, hnow]
    have hlevels : s.refresh.pins = s.pins := table_ext fun p => by
      rw [Fin.getElem_fin, State.pins_refresh, ← Fin.getElem_fin, hlevel hnow, ← hpins]
    have hlink : ∀ l, s.refresh.link l = s.link l := fun l => by rw [State.link_refresh, ← hlines]
    exact State.ext (by simp) (by simp) (by simp) hengines hlevels (by simp) (by simp) (by simp) (by simp) (by simp)
      (hlink .a) (hlink .b) (by simp) (by simp) (by simp) (by simp) (by simp)

/-! ## Attention lines (R151) -/

theorem Slot.isDone_iff (sl : Slot) : sl.isDone = true ↔ ∃ resp, sl = .done resp := by
  cases sl <;> simp [Slot.isDone]

theorem State.noticePending_iff (l : Link) : s.noticePending l = true
    ↔ ∃ (n : SessionNo) (r : SessionRecord) (k : LeaseNo), s.sessions[n] = some r ∧ r.link = l
        ∧ r.notices[k] ≠ KindSet.empty := by
  have hsession : ∀ x : Session, (match x with | none => false | some r => decide (r.link = l) && r.hasNotice) = true
      ↔ ∃ (r : SessionRecord) (k : LeaseNo), x = some r ∧ r.link = l ∧ r.notices[k] ≠ KindSet.empty := fun x => by
    cases x <;> simp [SessionRecord.hasNotice]
  rw [State.noticePending, List.any_eq_true]
  exact ⟨fun ⟨n, _, h⟩ => ⟨n, (hsession _).1 h⟩, fun ⟨n, h⟩ => ⟨n, List.mem_finRange n, (hsession _).2 h⟩⟩

/-- The condition of an attention line (R151, R166). -/
theorem State.attentionOf_iff (l : Link) : s.attentionOf l = true
    ↔ s.resetHeld = false ∧ ((∃ resp, (s.link l).slot = .done resp)
      ∨ ∃ (n : SessionNo) (r : SessionRecord) (k : LeaseNo), s.sessions[n] = some r ∧ r.link = l
          ∧ r.notices[k] ≠ KindSet.empty) := by
  rw [State.attentionOf, Bool.and_eq_true, Bool.or_eq_true, Bool.not_eq_true', Slot.isDone_iff, State.noticePending_iff]

/-! ## Windows and gates (R89, R91, R92) -/

/-- An engine is in window as the window of its role gives, under the period in force (R89, R92). -/
theorem State.inWindow_engineOutput {u : EngineUse} {r : LeaseRecord} (hr : s.leases[u.place.lease] = some r) :
    (s.engineOutput u (edgesFor u.place.role u.active (s.periodOf u.place.lease))).inWindow = true
      ↔ s.timebases[r.timebase].InWindow u.active u.place.role := by
  have hcounter : s.counterOf u.place.lease = s.timebases[r.timebase].counter := by rw [State.counterOf, hr]
  rw [State.engineOutput, hcounter, State.periodOf_eq hr rfl]
  cases u.place.role with
  | primary => exact decide_eq_true_iff
  | complement =>
    simp only [edgesFor, Option.any_some, inComplementWindow, complementEdges, Timebase.InWindow, Bool.and_eq_true,
      decide_eq_true_iff]
    cases s.timebases[r.timebase].run with
    | none =>
      simp only [Option.map_none, Option.getD_none, reduceCtorEq, false_and, exists_false, iff_false]
      omega
    | some x =>
      simp only [Option.map_some, Option.getD_some, Option.some.injEq, exists_eq_left']
      omega

/-- The output gives its pin the active level as the gate and the carrier mode have it (R91, R92). -/
theorem State.active_engineOutput {u : EngineUse} {r : LeaseRecord} (hr : s.leases[u.place.lease] = some r) :
    (s.engineOutput u (edgesFor u.place.role u.active (s.periodOf u.place.lease))).active u.active.mode = true
      ↔ s.RoleActive s.timebases[r.timebase] u.active u.place.role := by
  have hcarrier (edges : Option Edges) :
      (s.engineOutput u edges).carrier = u.active.gate.map fun c => (s.carrier c).high := rfl
  rw [EngineOutput.active, State.RoleActive, hcarrier, ← State.inWindow_engineOutput hr]
  cases u.active.gate with
  | none => cases u.active.mode <;> rfl
  | some c => cases u.active.mode <;> simp

/-! ## Levels (R90, R95) -/

theorem Polarity.shownActive_eq (p : Polarity) : p.shownActive = p.activeLevel := by cases p <;> rfl

theorem Polarity.shownInactive_eq (p : Polarity) : p.shownInactive = p.inactiveLevel := by cases p <;> rfl

theorem Binding.channelFor_of_half {b : Binding} {h : Role × ChannelNo × PinNo} (hh : h ∈ b.halves) :
    b.channelFor h.1 = h.2.1 := by
  rcases Binding.mem_halves.1 hh with rfl | ⟨k, hk, rfl⟩
  · rfl
  · simp only [Binding.channelFor, hk]

theorem Binding.showsSafe_iff {b : Binding} {h : Role × ChannelNo × PinNo} (hh : h ∈ b.halves) (level : Level) :
    b.ShowsSafe level h.1 ↔ level = b.safeFor h.1 := by
  rcases Binding.mem_halves.1 hh with rfl | ⟨k, hk, rfl⟩
  · rfl
  · simp [Binding.ShowsSafe, Binding.safeFor, hk]

/-- The waveform of a binding is the level that its engine's output gives (R90 to R92). -/
theorem State.showsWaveform_iff {u : EngineUse} {r : LeaseRecord} {b : Binding} (hr : s.leases[u.place.lease] = some r)
    (hu : u.active = b.active) (level : Level) : s.ShowsWaveform r b u.place.role level
      ↔ level = outputLevel u.active (s.engineOutput u (edgesFor u.place.role u.active (s.periodOf u.place.lease))) := by
  rw [State.ShowsWaveform, ← hu, Polarity.shownActive_eq, Polarity.shownInactive_eq, ← State.active_engineOutput hr,
    outputLevel]
  split <;> simp_all

/-- A half shows its safe level while its lease is ARMED or TRIPPED, and else the waveform (R95). -/
theorem State.halfShows_iff (r : LeaseRecord) (b : Binding) (role : Role) (level : Level) : s.HalfShows r b role level
    ↔ if r.phase.showsSafe then b.ShowsSafe level role else s.ShowsWaveform r b role level := by
  unfold State.HalfShows
  cases r.phase <;> rfl

/-- A pin of a lease that shows safe levels is given its binding's safe level (R95). -/
theorem State.levelOf_safe {r : LeaseRecord} {b : Binding} {p : PinEntry} {o : PinOwner} (ho : p.owner = some o)
    (hr : s.leases[o.place.lease] = some r) (hb : r.bindings[o.place.index]? = some b) (hsafe : r.phase.showsSafe = true) :
    s.levelOf p = b.safeFor o.place.role := by
  simp only [State.levelOf, ho, hr, hb, hsafe, if_true]

/-- A pin of a lease that shows its waveform is given the level of its generating engine (R95). -/
theorem State.levelOf_generating {r : LeaseRecord} {b : Binding} {p : PinEntry} {o : PinOwner} {c : ChannelNo}
    {u : EngineUse} {e : Option Edges} {out : EngineOutput} (ho : p.owner = some o) (hr : s.leases[o.place.lease] = some r)
    (hb : r.bindings[o.place.index]? = some b) (hsafe : r.phase.showsSafe = false)
    (hc : b.channelFor o.place.role = c) (he : s.engines[c] = .generating u e out) :
    s.levelOf p = outputLevel u.active out := by
  subst hc
  simp only [State.levelOf, ho, hr, hb, hsafe, he, Bool.false_eq_true, if_false]

/-- With the engines up to date, a half shows by the rules exactly the level that its pin is given (R95). -/
theorem State.BindingsServed.halfShows_iff {n : LeaseNo} {r : LeaseRecord} (hs : s.BindingsServed n r)
    (hr : s.leases[n] = some r) {i : Nat} {b : Binding} {h : Role × ChannelNo × PinNo} (hh : r.HasHalf i b h)
    (hnow : s.engineNow s.engines[h.2.1] = s.engines[h.2.1]) (level : Level) :
    s.HalfShows r b h.1 level ↔ level = s.levelOf s.pins[h.2.2] := by
  obtain ⟨-, hserves, howner⟩ := State.bindingsServed_iff.1 hs i b h hh
  rw [State.halfShows_iff]
  rcases Engine.serves_iff.1 hserves with ⟨hsafe, -⟩ | ⟨hsafe, o, he⟩
  · rw [if_pos hsafe, Binding.showsSafe_iff hh.2, State.levelOf_safe howner hr hh.1 hsafe]
  · rw [he] at hnow
    injection hnow with _ _ ho
    rw [hsafe, if_neg Bool.false_ne_true,
      State.levelOf_generating howner hr hh.1 hsafe (Binding.channelFor_of_half hh.2) he, ← ho]
    exact State.showsWaveform_iff (u := servingUse n r i b h.1) hr rfl level

/-! ## Every output -/

/-- A generating engine serves a lease's binding, with the dead-band state of its role (R86, R92). -/
theorem State.TablesAgree.generating (ht : s.TablesAgree) {c : ChannelNo} {u : EngineUse} {e : Option Edges}
    {o : EngineOutput} (he : s.engines[c] = .generating u e o) :
    ∃ r, s.leases[u.place.lease] = some r ∧ e = edgesFor u.place.role u.active (s.periodOf u.place.lease) := by
  obtain ⟨hserved, ⟨hchannels, -⟩, hmatch⟩ := State.tablesAgree_iff.1 ht
  have hplace : s.channels[c] = some u.place := by rw [← hmatch, he]; rfl
  obtain ⟨r, b, hr, hb, h, hh, hrole, rfl⟩ := hchannels c u.place hplace
  obtain ⟨-, hserves, -⟩ := State.bindingsServed_iff.1 (hserved _ r hr) _ b h ⟨hb, hh⟩
  refine ⟨r, hr, ?_⟩
  rcases Engine.serves_iff.1 hserves with ⟨-, hheld⟩ | ⟨-, o', hgen⟩
  · rw [he] at hheld; cases hheld
  · rw [he, hrole] at hgen
    injection hgen with hu hedges
    rw [hedges, hu]
    rfl

/-- An engine's output is up to date when it is in window and holds its carrier's level as the rules give (R86, R89,
R92). -/
theorem State.TablesAgree.engineNow_iff (ht : s.TablesAgree) {c : ChannelNo} {u : EngineUse} {e : Option Edges}
    {o : EngineOutput} (he : s.engines[c] = .generating u e o) : s.engineNow s.engines[c] = s.engines[c]
      ↔ o.carrier = u.active.gate.map (fun g => (s.carrier g).high)
        ∧ leaseHas s.leases[u.place.lease] fun r =>
            o.inWindow = true ↔ s.timebases[r.timebase].InWindow u.active u.place.role := by
  obtain ⟨r, hr, rfl⟩ := ht.generating he
  have hout (x y : EngineOutput) : x = y ↔ y.carrier = x.carrier ∧ (y.inWindow = true ↔ x.inWindow = true) := by
    cases x; cases y; simp only [EngineOutput.mk.injEq, ← Bool.eq_iff_iff]; tauto
  rw [he, hr, State.engineNow, Engine.generating.injEq, hout, State.inWindow_engineOutput hr]
  simp only [true_and]
  rfl

/-- Where the tables agree, settled outputs are those that the rules give (R86, R89 to R92, R95, R151). -/
theorem State.TablesAgree.settled_iff_showsByRules (ht : s.TablesAgree) : s.Settled ↔ s.ShowsByRules := by
  obtain ⟨hserved, ⟨-, howned⟩, -⟩ := State.tablesAgree_iff.1 ht
  rw [State.settled_iff]
  constructor
  · rintro ⟨hnow, hpins, hlines⟩
    refine ⟨fun p hp => ?_, fun n => leaseHas_iff.2 fun r hr b hb h hh => ?_,
      fun c u e o he => (ht.engineNow_iff he).1 (hnow c), fun l => ?_⟩
    · rw [hpins, State.levelOf, hp]
    · obtain ⟨i, hi⟩ := mem_bindings_halves hb hh
      exact ((hserved n r hr).halfShows_iff hr hi (hnow _) _).2 (hpins _)
    · rw [hlines, State.attentionOf_iff]
  · rintro ⟨hrest, hleased, hengines, hlines⟩
    have hnow : ∀ c : ChannelNo, s.engineNow s.engines[c] = s.engines[c] := fun c => by
      cases he : s.engines[c] with
      | unused => rfl
      | held u => rfl
      | generating u e o => exact he ▸ (ht.engineNow_iff he).2 (hengines c u e o he)
    refine ⟨hnow, fun p => ?_, fun l => Bool.eq_iff_iff.2 ?_⟩
    · cases ho : s.pins[p].owner with
      | none => rw [hrest p ho, State.levelOf, ho]
      | some o =>
        obtain ⟨r, b, hr, hb, -, h, hh, -, rfl⟩ := howned p o ho
        have hshows := leaseHas_iff.1 (hleased o.place.lease) r hr b (List.mem_of_getElem? hb) h hh
        exact ((hserved _ r hr).halfShows_iff hr ⟨hb, hh⟩ (hnow _) _).1 hshows
    · rw [hlines, State.attentionOf_iff]

end Sys2Proof.Machine
end

section
/-! How a step ends. RSTn and the hold of a reset are moved by FULL_RESET, RESET_RELEASE and a supply that falls below the
power-on level alone; every step ends with the outputs brought up to date, with a full reset, or with a change that no output
reads (`State.StepEnd`). -/

namespace Sys2Proof.Machine

/-! ## RSTn and the hold of a reset through the shared operations -/

/-- The level of RSTn and whether a full reset is held. -/
def State.resetLine (s : State) : LineLevel × Bool := (s.rstn, s.resetHeld)

section operations

variable (s : State)

@[simp] theorem State.resetLine_setLink (l : Link) (p : LinkPort) : (s.setLink l p).resetLine = s.resetLine := by
  simp [State.resetLine]

@[simp] theorem State.resetLine_setSession (n : SessionNo) (r : Session) : (s.setSession n r).resetLine = s.resetLine := by
  simp [State.resetLine]

@[simp] theorem State.resetLine_renewed (n : SessionNo) : (s.renewed n).resetLine = s.resetLine := by simp [State.resetLine]

@[simp] theorem State.resetLine_setTimebase (tb : TimebaseNo) (y : Timebase) :
    (s.setTimebase tb y).resetLine = s.resetLine := by simp [State.resetLine]

@[simp] theorem State.resetLine_setInput (i : FaultLine) (x : FaultInput) : (s.setInput i x).resetLine = s.resetLine := by
  simp [State.resetLine]

@[simp] theorem State.resetLine_setTrip (x : TripUnit) : ({ s with trip := x } : State).resetLine = s.resetLine := rfl

@[simp] theorem State.resetLine_setPins (x : Vector PinEntry 24) :
    ({ s with pins := x } : State).resetLine = s.resetLine := rfl

@[simp] theorem State.resetLine_setCarrierUnit (c : Carrier) (u : CarrierUnit) :
    (s.setCarrierUnit c u).resetLine = s.resetLine := by simp [State.resetLine]

@[simp] theorem State.resetLine_putLease (k : LeaseNo) (l : Lease) : (s.putLease k l).resetLine = s.resetLine := by
  simp [State.resetLine]

@[simp] theorem State.resetLine_place (l : Link) (r : Response) : (s.place l r).resetLine = s.resetLine := by
  simp [State.resetLine]

@[simp] theorem State.resetLine_freeLeases (w : LeaseNo → Bool) : (s.freeLeases w).resetLine = s.resetLine := by
  simp [State.resetLine]

@[simp] theorem State.resetLine_takeTrip (w : LeaseRecord → Bool) (c : Source) :
    (s.takeTrip w c).resetLine = s.resetLine := by simp [State.resetLine]

@[simp] theorem State.resetLine_setInputLatch (i : FaultLine) : (s.setInputLatch i).resetLine = s.resetLine := by
  simp [State.resetLine]

@[simp] theorem State.resetLine_setSupplyLatch : s.setSupplyLatch.resetLine = s.resetLine := by simp [State.resetLine]

@[simp] theorem State.resetLine_lapseSession (n : SessionNo) : (s.lapseSession n).resetLine = s.resetLine := by
  simp [State.resetLine]

@[simp] theorem State.resetLine_closeSession (n : SessionNo) : (s.closeSession n).resetLine = s.resetLine := by
  simp [State.resetLine]

@[simp] theorem State.resetLine_takeBoundary (tb : TimebaseNo) (x : TimebaseRun) :
    (s.takeBoundary tb x).resetLine = s.resetLine := by simp [State.resetLine]

/-- Operations that keep the reset line, taken one after the other, keep it. -/
theorem State.resetLine_foldl {α : Type} {f : State → α → State} (h : ∀ (u : State) a, (f u a).resetLine = u.resetLine)
    (xs : List α) : (xs.foldl f s).resetLine = s.resetLine := by
  induction xs generalizing s with
  | nil => rfl
  | cons x xs ih => exact (ih _).trans (h s x)

@[simp] theorem State.resetLine_timerHappening (n : SessionNo) : (s.timerHappening n).resetLine = s.resetLine := by
  rcases s.timerHappening_cases n with h | ⟨r, x, -, h, -⟩ | h | h <;> rw [h]
  · exact s.resetLine_setSession n _
  · exact s.resetLine_lapseSession n
  · exact s.resetLine_closeSession n

theorem State.resetLine_tickAll : s.tickAll.resetLine = s.resetLine :=
  s.resetLine_foldl (fun u n => u.resetLine_timerHappening n) _

@[simp] theorem State.resetLine_supplyFell : s.supplyFell.resetLine = s.resetLine := by
  unfold State.supplyFell
  split <;> simp

@[simp] theorem State.resetLine_supplyRose : s.supplyRose.resetLine = s.resetLine := by
  unfold State.supplyRose
  split <;> rfl

theorem State.resetLine_compareSupply : s.compareSupply.resetLine = s.resetLine := by
  unfold State.compareSupply
  split
  · simp
  · split <;> rfl

theorem State.resetLine_selectEdge (i : FaultLine) (e : Edge) : (s.selectEdge i e).resetLine = s.resetLine := by
  simp only [State.selectEdge]
  split <;> simp

theorem State.resetLine_retireLease (k : LeaseNo) (r : LeaseRecord) (m : RetireMode) :
    (s.retireLease k r m).resetLine = s.resetLine := by
  unfold State.retireLease
  split <;> simp [State.resetLine]

theorem State.resetLine_clearLease (k : LeaseNo) (r : LeaseRecord) : (s.clearLease k r).resetLine = s.resetLine := by
  unfold State.clearLease
  split
  · simp
  · split <;> simp [State.resetLine]

/-! ## The parts of a transaction -/

@[simp] theorem State.resetLine_selectLink (l : Link) : (s.selectLink l).resetLine = s.resetLine := by
  unfold State.selectLink
  split <;> simp

@[simp] theorem State.resetLine_shiftFree (l : Link) (n : Nat) : (s.shiftFree l n).resetLine = s.resetLine :=
  s.resetLine_setLink l _

@[simp] theorem State.resetLine_shiftIgnored (l : Link) (due : Option Byte) (n : Nat) :
    (s.shiftIgnored l due n).resetLine = s.resetLine := by
  unfold State.shiftIgnored
  split
  · split <;> simp
  · rfl
  · split <;> simp

@[simp] theorem State.resetLine_firstByte (l : Link) (b : Byte) : (s.firstByte l b).resetLine = s.resetLine := by
  simp only [State.firstByte]
  repeat' split
  all_goals simp

@[simp] theorem State.resetLine_moreBytes (l : Link) (bs : List Byte) : (s.moreBytes l bs).resetLine = s.resetLine := by
  simp only [State.moreBytes]
  repeat' split
  all_goals simp

@[simp] theorem State.resetLine_endTransaction (l : Link) : (s.endTransaction l).resetLine = s.resetLine :=
  s.resetLine_setLink l _

@[simp] theorem State.resetLine_lapseLink (l : Link) : (s.lapseLink l).resetLine = s.resetLine :=
  s.resetLine_foldl (fun u n => by split <;> simp) _

@[simp] theorem State.resetLine_clearedLink (l : Link) (drop : Bool) : (s.clearedLink l drop).resetLine = s.resetLine := by
  cases drop <;> simp [State.clearedLink]

@[simp] theorem State.resetLine_riseLink (l : Link) : (s.riseLink l).resetLine = s.resetLine := by
  simp only [State.riseLink]
  repeat' split
  all_goals simp

theorem State.resetLine_transact (row : TransactionRow) (l : Link) (m : Moment) :
    (s.transact row l m).resetLine = s.resetLine := by
  cases m with
  | select => exact s.resetLine_selectLink l
  | whole b rest =>
    simp only [State.transact, State.wholeTransaction]
    split <;> simp
  | first b | more bs | rise =>
    simp only [State.transact]
    split <;> simp

end operations

/-! ## Commands -/

/-- What a command performs keeps the reset line, where its own checks accept it. -/
def KeepsLine (s : State) (p : Performed) : Prop := ∀ x, p = .ok x → x.1.resetLine = s.resetLine

section commands

variable {s t : State} {n : SessionNo} {ps : List Byte}

theorem keepsLine_ok {resp : Response} (h : t.resetLine = s.resetLine) : KeepsLine s (.ok (t, resp)) := by
  rintro _ ⟨⟩
  exact h

/-- A check before the effect moves nothing. -/
theorem keepsLine_bind {α : Type} {x : Except Reject α} {f : α → Performed} (h : ∀ a, KeepsLine s (f a)) :
    KeepsLine s (x >>= f) := fun y hy => by
  obtain ⟨a, -, ha⟩ := bind_eq_ok.1 hy
  exact h a y ha

theorem keepsLine_settleRefusal {p : Performed} (h : KeepsLine s p) : (settleRefusal s p).1.resetLine = s.resetLine := by
  cases p with
  | error e => rfl
  | ok x => exact h x rfl

theorem State.resetLine_takeSession {c : Command} {perform : State → SessionNo → List Byte → Performed}
    (h : ∀ u n ps, KeepsLine u (perform u n ps)) : (s.takeSession c perform).resetLine = s.resetLine := by
  unfold State.takeSession
  split
  · rfl
  split
  · rw [State.resetLine_place, State.serveSession]
    split
    · rfl
    · rw [keepsLine_settleRefusal (h _ _ _), State.resetLine_renewed]
  · rfl

theorem State.resetLine_takeOpenSession (s : State) : s.takeOpenSession.resetLine = s.resetLine := by
  unfold State.takeOpenSession
  split
  · rfl
  split
  · rw [State.resetLine_place]
    exact keepsLine_settleRefusal (keepsLine_bind fun _ => keepsLine_bind fun q => keepsLine_bind fun _ =>
      keepsLine_bind fun _ => keepsLine_bind fun n => keepsLine_ok (s.resetLine_setSession n _))
  · rfl

theorem State.resetLine_takeBadCommand (s : State) : s.takeBadCommand.resetLine = s.resetLine := by
  unfold State.takeBadCommand
  split
  · rfl
  · split <;> simp

theorem keepsLine_claim : KeepsLine s (performClaimCommand s n ps) :=
  keepsLine_bind fun _ => keepsLine_bind fun _ => keepsLine_bind fun _ => keepsLine_bind fun _ => keepsLine_bind fun _ =>
    keepsLine_bind fun _ => keepsLine_bind fun _ => keepsLine_bind fun _ => keepsLine_bind fun _ => keepsLine_bind fun _ =>
      keepsLine_ok (by simp [State.resetLine])

theorem keepsLine_amend : KeepsLine s (performAmend s n ps) :=
  keepsLine_bind fun _ => keepsLine_bind fun _ => keepsLine_bind fun _ => keepsLine_bind fun _ => keepsLine_bind fun _ =>
    keepsLine_bind fun _ => keepsLine_bind fun _ => keepsLine_bind fun _ => keepsLine_ok (by simp [State.resetLine])

theorem keepsLine_retire : KeepsLine s (performRetire s n ps) :=
  keepsLine_bind fun k => keepsLine_bind fun _ => keepsLine_bind fun m => keepsLine_bind fun r =>
    keepsLine_ok (s.resetLine_retireLease k r m)

theorem keepsLine_clearTrip : KeepsLine s (performClearTrip s n ps) :=
  keepsLine_bind fun k => keepsLine_bind fun _ => keepsLine_bind fun r => keepsLine_ok (s.resetLine_clearLease k r)

theorem keepsLine_retune : KeepsLine s (performRetune s n ps) :=
  keepsLine_bind fun tb => keepsLine_bind fun _ => keepsLine_bind fun _ => keepsLine_bind fun _ => keepsLine_bind fun _ =>
    keepsLine_ok (s.resetLine_setTimebase tb _)

theorem keepsLine_adopt : KeepsLine s (performAdopt s n ps) :=
  keepsLine_bind fun _ => keepsLine_bind fun _ => keepsLine_bind fun _ => keepsLine_bind fun _ =>
    keepsLine_ok (by simp [State.resetLine])

theorem keepsLine_readNotices : KeepsLine s (performReadNotices s n ps) := by
  unfold performReadNotices
  split
  · exact keepsLine_ok rfl
  · exact keepsLine_ok (s.resetLine_setSession n _)

theorem keepsLine_readFaults : KeepsLine s (performReadFaults s n ps) :=
  keepsLine_bind fun _ => keepsLine_ok (s.resetLine_setTrip _)

theorem keepsLine_releaseHalt : KeepsLine s (performReleaseHalt s n ps) :=
  keepsLine_bind fun _ => keepsLine_ok (s.resetLine_setTrip _)

theorem keepsLine_queryLease : KeepsLine s (performQueryLease s n ps) :=
  keepsLine_bind fun _ => keepsLine_bind fun _ => by
    split
    · exact keepsLine_ok rfl
    · exact keepsLine_bind fun _ => keepsLine_ok rfl

theorem keepsLine_setPinRest : KeepsLine s (performSetPinRest s n ps) :=
  keepsLine_bind fun _ => keepsLine_bind fun _ => keepsLine_bind fun _ => keepsLine_ok (s.resetLine_setPins _)

theorem keepsLine_setCarrier : KeepsLine s (performSetCarrier s n ps) :=
  keepsLine_bind fun _ => keepsLine_bind fun c => keepsLine_bind fun _ => keepsLine_bind fun _ =>
    keepsLine_ok (s.resetLine_setCarrierUnit c _)

theorem keepsLine_setFaultEdge : KeepsLine s (performSetFaultEdge s n ps) :=
  keepsLine_bind fun _ => keepsLine_bind fun i => keepsLine_bind fun e => keepsLine_bind fun _ =>
    keepsLine_ok (s.resetLine_selectEdge i e)

theorem keepsLine_setSupplyLevel : KeepsLine s (performSetSupplyLevel s n ps) :=
  keepsLine_bind fun _ => keepsLine_bind fun _ => keepsLine_ok (State.resetLine_compareSupply _)

theorem keepsLine_haltAll : KeepsLine s (performHaltAll s n ps) :=
  keepsLine_bind fun _ => by
    split
    · exact keepsLine_ok rfl
    · exact keepsLine_ok (State.resetLine_takeTrip _ _ _)

end commands

/-! ## A step's end -/

/-- How a command ends: with the outputs brought up to date and the reset line kept, or RSTn high; with a full reset; or
with a change of the trip unit, the supply or a rise of RSTn that no output reads. -/
inductive State.StepEnd (s : State) : State → Prop
  | refreshed {u : State} (line : u.resetLine = s.resetLine) : s.StepEnd u.refresh
  | released {u : State} (high : u.rstn = .high) : s.StepEnd u.refresh
  | reset (u : State) : s.StepEnd u.fullReset
  | unseen (trip : TripUnit) (supplyMv : Nat) {rstn : LineLevel} (line : rstn = s.rstn ∨ rstn = .high) :
      s.StepEnd { s with trip := trip, supplyMv := supplyMv, rstn := rstn }

variable {s t : State}

theorem State.StepEnd.same (s : State) : s.StepEnd s := .unseen s.trip s.supplyMv (.inl rfl)

theorem State.stepEnd_happen {f : State → State} (hf : (f s).resetLine = s.resetLine) (h : s.happen f = .next t) :
    s.StepEnd t := by
  cases hheld : s.resetHeld with
  | true =>
    rw [State.happen_held f hheld] at h
    cases h
    exact .same s
  | false =>
    rw [State.happen_free f hheld] at h
    cases h
    exact .refreshed hf

theorem State.stepEnd_transact {row : TransactionRow} {l : Link} {m : Moment}
    (h : (Host.Outcome.next (s.transact row l m).refresh : Result) = .next t) : s.StepEnd t := by
  cases h
  exact .refreshed (s.resetLine_transact row l m)

theorem exec_end {i : Instr} (h : exec i s = .next t) : s.StepEnd t := by
  have served {c : Command} {perform : State → SessionNo → List Byte → Performed}
      (hp : ∀ u n ps, KeepsLine u (perform u n ps)) : (s.happen fun s => s.takeSession c perform) = .next t → s.StepEnd t :=
    State.stepEnd_happen (f := fun s => s.takeSession c perform) (State.resetLine_takeSession hp)
  have query {c : Command} {perform : State → SessionNo → List Byte → Performed}
      (hp : ∀ u n ps t resp, perform u n ps = .ok (t, resp) → t = u) :
      (s.happen fun s => s.takeSession c perform) = .next t → s.StepEnd t :=
    served fun u n ps x hx => congrArg State.resetLine (hp u n ps x.1 x.2 hx)
  cases i with
  | openSession => exact State.stepEnd_happen s.resetLine_takeOpenSession h
  | renew => exact served (fun _ _ _ => keepsLine_ok rfl) h
  | closeSession => exact served (fun u n _ => keepsLine_ok (u.resetLine_closeSession n)) h
  | claim => exact served (fun _ _ _ => keepsLine_claim) h
  | amend => exact served (fun _ _ _ => keepsLine_amend) h
  | retire => exact served (fun _ _ _ => keepsLine_retire) h
  | clearTrip => exact served (fun _ _ _ => keepsLine_clearTrip) h
  | retune => exact served (fun _ _ _ => keepsLine_retune) h
  | adopt => exact served (fun _ _ _ => keepsLine_adopt) h
  | readNotices => exact served (fun _ _ _ => keepsLine_readNotices) h
  | readFaults => exact served (fun _ _ _ => keepsLine_readFaults) h
  | querySession => exact query (fun _ _ _ _ _ => need_bind_ok) h
  | queryLease => exact served (fun _ _ _ => keepsLine_queryLease) h
  | queryTimebase => exact query (fun _ _ _ _ _ => need_bind_ok) h
  | findByPin => exact query (fun _ _ _ _ _ => need_bind_ok) h
  | listLeases => exact query (fun _ _ _ _ _ => need_bind_ok) h
  | setPinRest => exact served (fun _ _ _ => keepsLine_setPinRest) h
  | setCarrier => exact served (fun _ _ _ => keepsLine_setCarrier) h
  | setFaultEdge => exact served (fun _ _ _ => keepsLine_setFaultEdge) h
  | setSupplyLevel => exact served (fun _ _ _ => keepsLine_setSupplyLevel) h
  | haltAll => exact served (fun _ _ _ => keepsLine_haltAll) h
  | releaseHalt => exact served (fun _ _ _ => keepsLine_releaseHalt) h
  | badCommand => exact State.stepEnd_happen s.resetLine_takeBadCommand h
  | commandFrame l m | fetch l m | clearLink l m | ignoredTransaction l m => exact State.stepEnd_transact h
  | count tb | boundary tb | startBoundary tb =>
    simp only [exec, execCount, execBoundary, execStartBoundary] at h
    refine State.stepEnd_happen ?_ h
    repeat' split
    all_goals simp
  | carrierEdge c =>
    simp only [exec, execCarrierEdge] at h
    refine State.stepEnd_happen ?_ h
    split <;> simp
  | tick who =>
    simp only [exec, execTick] at h
    refine State.stepEnd_happen ?_ h
    cases who with
    | none => exact s.resetLine_tickAll
    | some n => exact s.resetLine_timerHappening n
  | lapse n | holdExpiry n =>
    refine State.stepEnd_happen ?_ h
    split <;> simp
  | faultInputChange i level =>
    cases h
    cases i <;> exact .unseen _ _ (.inl rfl)
  | faultEdge i | faultRelease i =>
    refine State.stepEnd_happen ?_ h
    split <;> simp
  | supplyFall mv =>
    simp only [exec, execSupplyFall] at h
    repeat' split at h
    all_goals cases h
    · exact .reset _
    · exact .unseen s.trip mv (.inl rfl)
    · exact .refreshed (State.resetLine_supplyFell _)
    · exact .same s
  | supplyRise mv =>
    simp only [exec, execSupplyRise] at h
    repeat' split at h
    all_goals cases h
    · exact .unseen s.trip mv (.inl rfl)
    · exact .refreshed (State.resetLine_supplyRose _)
    · exact .same s
  | fullReset cause =>
    cases cause with
    | rstn lowNs =>
      simp only [exec, execFullReset] at h
      split at h <;> cases h
      · exact .same s
      · exact .reset _
    | powerOn => cases h; exact .reset s
    | supply mv =>
      simp only [exec, execFullReset] at h
      split at h <;> cases h
      · exact .reset _
      · exact .same s
  | resetRelease =>
    simp only [exec, execResetRelease] at h
    repeat' split at h
    all_goals cases h
    · exact .released rfl
    · exact .unseen s.trip s.supplyMv (.inr rfl)
    · exact .same s

end Sys2Proof.Machine
end

section
/-! What the part shows (R86 to R92, R95, R151, R172): every step keeps the outputs settled, which where the tables agree is
what the rules give, and so the two pins of a complementary binding are never both active. -/

namespace Sys2Proof.Machine

variable {s t : State}

/-! ## Settled through a step -/

/-- No output reads the Trip Unit, the supply, RSTn or the queue (R86, R95, R151). -/
theorem State.Settled.of_unseen (h : s.Settled) (trip : TripUnit) (supplyMv : Nat) (rstn : LineLevel) (q : List Instr) :
    ({ s with trip := trip, supplyMv := supplyMv, rstn := rstn, pending := q } : State).Settled := by
  obtain ⟨hnow, hpins, hlines⟩ := State.settled_iff.1 h
  exact State.settled_iff.2
    ⟨fun c => (State.engineNow_congr rfl rfl rfl rfl _).trans (hnow c), hpins, hlines⟩

/-- A full reset leaves the outputs as the rules give them: no pin is owned, no engine is in use, and both attention lines
are inactive (R102, R166). -/
theorem State.settled_fullReset (s : State) : s.fullReset.Settled := by
  refine State.settled_iff.2 ⟨fun c => ?_, fun p => ?_, fun l => ?_⟩
  · rw [State.engine_fullReset]; rfl
  · rw [State.pin_fullReset]; rfl
  · rw [State.link_fullReset]; rfl

theorem State.StepEnd.settled (h : s.StepEnd t) (hs : s.Settled) : t.Settled := by
  cases h with
  | refreshed => exact State.settled_refresh _
  | released => exact State.settled_refresh _
  | reset u => exact u.settled_fullReset
  | unseen trip supplyMv => exact hs.of_unseen trip supplyMv _ s.pending

theorem step_settled (hs : s.Settled) (h : step s = .next t) : t.Settled := by
  unfold step at h
  split at h
  · cases h; exact hs
  · exact (exec_end h).settled (hs.of_unseen s.trip s.supplyMv s.rstn _)

/-! ## RSTn (R172, log 4) -/

theorem State.StepEnd.resetLineHeld (h : s.StepEnd t) (hs : s.ResetLineHeld) : t.ResetLineHeld := by
  cases h with
  | @refreshed u line =>
    obtain ⟨hrstn, hheld⟩ := Prod.mk.inj line
    intro hlow
    rw [State.refresh_rstn, hrstn] at hlow
    rw [State.refresh_resetHeld, hheld]
    exact hs hlow
  | released high =>
    intro hlow
    rw [State.refresh_rstn, high] at hlow
    cases hlow
  | reset u => exact fun _ => rfl
  | unseen trip supplyMv line =>
    rcases line with rfl | rfl
    · exact hs
    · intro hlow; cases hlow

theorem step_resetLineHeld (hs : s.ResetLineHeld) (h : step s = .next t) : t.ResetLineHeld := by
  unfold step at h
  split at h
  · cases h; exact hs
  · exact (exec_end h).resetLineHeld hs

/-! ## Lines driven (R90, R95, R172) -/

/-- A pin is released while a reset is held, and else driven as its level and its owner's drive mode give (R90, R95). -/
theorem State.pinDrive_free (h : s.resetHeld = false) (p : PinNo) : (s.pins[p].level = .low → s.pinDrive p = .low)
    ∧ (s.pins[p].level = .float → s.pinDrive p = .released)
    ∧ (s.pins[p].level = .high → s.pinDrive p
        = if s.pins[p].owner.any (fun o => o.drive == .openDrain) then .released else .high) := by
  rw [State.pinDrive, h, if_neg Bool.false_ne_true]
  cases s.pins[p].owner with
  | none => refine ⟨fun hl => ?_, fun hl => ?_, fun hl => ?_⟩ <;> rw [hl] <;> rfl
  | some o =>
    refine ⟨fun hl => ?_, fun hl => ?_, fun hl => ?_⟩ <;> rw [hl]
    · rfl
    · rfl
    · cases hd : o.drive <;> simp [driveOf, hd]

theorem State.dataOutDriven_iff (l : Link) :
    s.dataOutDriven l = true ↔ s.resetHeld = false ∧ (s.link l).transaction ≠ none := by
  rw [State.dataOutDriven, Bool.and_eq_true, Bool.not_eq_true', Option.isSome_iff_ne_none]

theorem State.attentionDrive_eq (l : Link) : s.attentionDrive l
    = if s.resetHeld = false ∧ (s.link l).attention = true then .low else .released := by
  simp only [State.attentionDrive, Bool.and_eq_true, Bool.not_eq_true']

/-- Settles O59: in a state whose tables agree the rules give what `Settled` says, and every step keeps the tables' agreement
and `Settled`. -/
theorem outputsShowWhatTheRulesGive : Obligations.OutputsShowWhatTheRulesGive := by
  unfold Obligations.OutputsShowWhatTheRulesGive
  refine ⟨fun s t hcounts hshaped hholders htables _ _ hshows hstep => ?_,
    fun s hs htables _ => htables.settled_iff_showsByRules.1 hs, fun s t => step_settled, fun s t => step_resetLineHeld,
    fun s p => ⟨fun hheld => if_pos hheld, fun hfree => s.pinDrive_free hfree p⟩,
    fun s l => ⟨s.dataOutDriven_iff l, s.attentionDrive_eq l⟩⟩
  have hafter : t.TablesAgree := stepsKeepTheTables s t hcounts hshaped hholders htables hstep
  exact hafter.settled_iff_showsByRules.1 (step_settled (htables.settled_iff_showsByRules.2 hshows) hstep)

/-! ## Complementary pins (R92) -/

theorem Polarity.shownActive_ne_shownInactive (p : Polarity) : p.shownActive ≠ p.shownInactive := by cases p <;> decide

/-- A generated pin at its binding's active level is active as its role has it (R90). -/
theorem State.ShowsWaveform.active {r : LeaseRecord} {b : Binding} {role : Role} {level : Level}
    (h : s.ShowsWaveform r b role level) (hl : level = b.active.polarity.shownActive) :
    s.RoleActive s.timebases[r.timebase] b.active role := by
  by_contra hidle
  exact b.active.polarity.shownActive_ne_shownInactive (hl.symm.trans (h.2 hidle))

/-- Ungated, the windows of the two roles lie apart: the counter is below the duty in the one and not in the other (R89,
R92). -/
theorem State.not_both_active {tb : Timebase} {st : Settings} (hgate : st.gate = none)
    (hprimary : s.RoleActive tb st .primary) (hcomplement : s.RoleActive tb st .complement) : False := by
  have hwindow (role : Role) (h : s.RoleActive tb st role) : tb.InWindow st role := by
    rw [State.RoleActive, hgate] at h
    cases hm : st.mode <;> simpa only [hm] using h
  have hlow : tb.counter < st.duty := hwindow _ hprimary
  obtain ⟨x, -, hhigh, -⟩ := hwindow _ hcomplement
  omega

/-- Settles O60: a lease at its safe levels has a pair that fits (R30), and else the two windows lie apart. -/
theorem complementPinsAreNeverBothActive : Obligations.ComplementPinsAreNeverBothActive := by
  unfold Obligations.ComplementPinsAreNeverBothActive
  intro s hs htables hsafe hgates n
  refine leaseHas_iff.2 fun r hr b hb k hk => ?_
  obtain ⟨i, hi⟩ := List.mem_iff_getElem?.1 hb
  have hfits := (leaseHas_iff.1 (hsafe n) r hr (b, i) (mem_zipIdx_iff.2 hi) k hk).1
  have hgate := (settingsFit_iff.1 (leaseHas_iff.1 (hgates n) r hr (b, i) (mem_zipIdx_iff.2 hi)).1).2 (by rw [hk]; simp)
  have hshows := leaseHas_iff.1 ((htables.settled_iff_showsByRules.1 hs).leased n) r hr b hb
  have hprimary := hshows _ (Binding.mem_halves.2 (.inl rfl))
  have hcomplement := hshows _ (Binding.mem_halves.2 (.inr ⟨k, hk, rfl⟩))
  rw [State.halfShows_iff] at hprimary hcomplement
  rw [← Polarity.shownActive_eq]
  rintro ⟨hp, hc⟩
  split at hprimary
  · rename_i hphase
    rw [if_pos hphase] at hcomplement
    exact safePairFits_iff.1 hfits ⟨hprimary.symm.trans hp, (hcomplement k hk).symm.trans hc⟩
  · rename_i hphase
    rw [if_neg hphase] at hcomplement
    exact State.not_both_active hgate (hprimary.active hp) (hcomplement.active hc)

end Sys2Proof.Machine
end

section
/-! SET PIN REST, SET CARRIER and a carrier's edge (R97, R99, R101): each writes one record, and the outputs follow. -/

namespace Sys2Proof.Machine

variable {s t : State} {l : Link} {ps : List Byte} {n : SessionNo} {r : SessionRecord}

/-! ## Carriers (R99, R101) -/

/-- A state that keeps the engines and the pin table keeps what they hold once its outputs are brought up to date. -/
theorem State.holdingsKept_of_kept (he : t.engines = s.engines) (hp : t.pins = s.pins) : s.HoldingsKept t.refresh where
  engines c := by rw [(State.holdingsKept_refresh t).engines, he]
  pins p := by
    rw [State.PinKept, ← hp]
    exact (State.holdingsKept_refresh t).pins p

theorem State.carrier_refresh (s : State) (c : Carrier) : s.refresh.carrier c = s.carrier c := by
  cases c <;> simp [State.carrier]

theorem State.carrier_place (s : State) (l : Link) (resp : Response) (c : Carrier) :
    (s.place l resp).carrier c = s.carrier c := by
  cases c <;> simp [State.carrier]

/-- Settles O44: the edge of a RUNNING carrier writes its record alone, and that of a STOPPED one nothing. -/
theorem carrierEdgeTogglesTheLevel : Obligations.CarrierEdgeTogglesTheLevel := by
  unfold Obligations.CarrierEdgeTogglesTheLevel
  intro s c hheld
  have hexec : exec (.carrierEdge c) s = .next (if (s.carrier c).divider = 0 then s
      else s.setCarrierUnit c { s.carrier c with high := !(s.carrier c).high }).refresh := by
    rw [exec, execCarrierEdge, State.happen_free _ hheld]
  refine ⟨fun hrunning => ?_, fun hstopped hsettled => ?_⟩
  · rw [if_neg hrunning] at hexec
    refine ⟨_, hexec, ?_, fun d hd => ?_, by simp, by simp, by simp, State.holdingsKept_of_kept (by simp) (by simp), by simp,
      ⟨?_, ?_⟩, ?_, ?_, State.settled_refresh _⟩
    · rw [State.carrier_refresh, State.carrier_setCarrierUnit]
    · rw [State.carrier_refresh, State.carrier_setCarrierUnit_other _ _ hd]
    · simp
    · simp
    · exact State.linksKept_of_kept (by simp) (by simp) (by simp) (by simp) (by simp) (by simp)
    · simpa using hheld
  · rw [hexec, if_pos hstopped]
    exact congrArg _ hsettled

/-- A SET CARRIER that passes its checks writes the divider and takes the level low (R101). -/
theorem performSetCarrier_ok {c : Carrier} (h : s.Serves .setCarrier l ps n r) (hmay : s.MayConfigure r)
    (hc : arg ps 1 = match c with | .ca => 1 | .cb => 2) (hdivider : arg2 ps 2 ≤ 1023) (hunused : (s.carrier c).inUse = 0) :
    performSetCarrier (s.renewed n) n ps
      = .ok ((s.renewed n).setCarrierUnit c { divider := arg2 ps 2, high := false, inUse := 0 },
          goodResponse ([byte (arg ps 1)] ++ twoBytes (arg2 ps 2) ++ [0])) := by
  have hcode : carrierOfCode (arg ps 1) = some c := by rw [hc]; cases c <;> rfl
  have hkept : (s.renewed n).carrier c = s.carrier c := by cases c <;> rfl
  simp only [performSetCarrier, h.checkConfigure rfl hmay, hcode, need_some, hdivider, decide_true, check_ok, hkept, hunused,
    beq_self_eq_true, bind, Except.bind]
  rfl

/-- Settles O43: the SET CARRIER passes its checks on the renewed tables and writes the one carrier. -/
theorem setCarrierRestartsTheCarrier : Obligations.SetCarrierRestartsTheCarrier := by
  unfold Obligations.SetCarrierRestartsTheCarrier
  intro s l ps n r c h hmay hc hdivider hunused
  refine ⟨_, State.happen_served h (performSetCarrier_ok h hmay hc hdivider hunused), ?_, fun d hd => ?_, by simp, by simp,
    by simp, State.holdingsKept_of_kept (by simp) (by simp), State.renews_renewed h (by simp), ⟨?_, ?_⟩, State.settled_refresh _,
    State.answered_of_kept l _ (by simp) (by simp) (by simp) (by simp) (by simp) (by simp)⟩
  · rw [State.carrier_refresh, State.carrier_place, State.carrier_setCarrierUnit]
  · rw [State.carrier_refresh, State.carrier_place, State.carrier_setCarrierUnit_other _ _ hd]
    cases d <;> rfl
  · simp
  · simp

/-! ## SET PIN REST (R97) -/

theorem PinEntry.setRest_eq (p : PinEntry) (v : Level) :
    p.setRest v = { p with rest := v, level := if p.owner = none then v else p.level } := by
  unfold PinEntry.setRest
  cases h : p.owner <;> simp

/-- Where the tables agree, the level of a pin with an owner does not depend on its rest level (R95). -/
theorem State.TablesAgree.levelOf_owned (ht : s.TablesAgree) {p : PinNo} {o : PinOwner} (ho : s.pins[p].owner = some o)
    {e : PinEntry} (he : e.owner = some o) : s.levelOf e = s.levelOf s.pins[p] := by
  obtain ⟨-, ⟨-, howned⟩, -⟩ := State.tablesAgree_iff.1 ht
  obtain ⟨q, b, hq, hb, -⟩ := howned p o ho
  simp only [State.levelOf, ho, he, hq, hb]

/-- A pin given a rest level shows what it is given: the rest level where it is unowned, and else what it showed (R97). -/
theorem State.TablesAgree.levelOf_setRest (ht : s.TablesAgree) (hs : s.Settled) (p : PinNo) (v : Level) :
    s.levelOf (s.pins[p].setRest v) = (s.pins[p].setRest v).level := by
  rw [PinEntry.setRest_eq]
  cases ho : s.pins[p].owner with
  | none => simp only [State.levelOf, if_true]
  | some o =>
    rw [ht.levelOf_owned ho rfl, ← (State.settled_iff.1 hs).2.1]
    rfl

/-- From a settled state whose leases, timebases, carriers and engines are kept, bringing the outputs up to date gives each pin
its level there. -/
theorem State.pin_refresh_of_kept (hs : s.Settled) (hl : t.leases = s.leases) (ht : t.timebases = s.timebases)
    (hA : t.carrierA = s.carrierA) (hB : t.carrierB = s.carrierB) (he : t.engines = s.engines) (p : PinNo) :
    t.refresh.pins[p] = { t.pins[p] with level := s.levelOf t.pins[p] } := by
  have hlevel : t.refreshEngines.levelOf t.pins[p] = s.levelOf t.pins[p] :=
    State.levelOf_congr (t.leases_refreshEngines.trans hl) (table_ext fun c => by
      rw [State.refreshEngines, mapTable_at, he, State.engineNow_congr hl ht hA hB, State.engineNow_settled hs]) rfl rfl
  rw [Fin.getElem_fin, State.pins_refresh, ← Fin.getElem_fin, hlevel]

theorem performSetPinRest_ok {p : PinNo} {v : Level} (h : s.Serves .setPinRest l ps n r) (hmay : s.MayConfigure r)
    (hp : arg ps 1 = p.val) (hv : arg ps 2 = match v with | .low => 0 | .high => 1 | .float => 2) :
    performSetPinRest (s.renewed n) n ps
      = .ok ({ s.renewed n with pins := putAt s.pins p (s.pins[p].setRest v) },
          goodResponse [byte p.val, v.code, ownerByte (s.pins[p].setRest v), (s.pins[p].setRest v).level.code]) := by
  have hcode : Level.ofCode (arg ps 2) = some v := by rw [hv]; cases v <;> rfl
  simp only [performSetPinRest, h.checkConfigure rfl hmay, need_indexOf hp, hcode, need_some, bind, Except.bind]
  rfl

/-- Settles O42: the SET PIN REST passes its checks on the renewed tables and writes the one pin, whose level is then what the
pin shows. -/
theorem setPinRestWritesTheRestLevel : Obligations.SetPinRestWritesTheRestLevel := by
  unfold Obligations.SetPinRestWritesTheRestLevel
  intro s l ps n r p v h hsettled htables hmay hp hv
  have hpins (resp : Response) (j : PinNo) :
      (({ s.renewed n with pins := putAt s.pins p (s.pins[p].setRest v) } : State).place l resp).refresh.pins[j]
        = if j = p then s.pins[p].setRest v else s.pins[j] := by
    rw [State.pin_refresh_of_kept hsettled (by simp) (by simp) (by simp) (by simp) (by simp), State.place_pins]
    by_cases hj : j = p
    · subst hj
      rw [if_pos rfl, putAt_self, htables.levelOf_setRest hsettled]
    · rw [if_neg hj, putAt_other _ _ hj, ← (State.settled_iff.1 hsettled).2.1]
  refine ⟨_, State.happen_served h (performSetPinRest_ok h hmay hp hv), ?_, fun j hj => ?_, ?_, ?_, ?_, ?_, ?_⟩
  · rw [hpins, if_pos rfl, PinEntry.setRest_eq]
  · rw [hpins, if_neg hj]
  · exact table_ext fun c => by
      rw [Fin.getElem_fin, State.engines_refresh, State.place_engines, State.engineNow_congr (s := s) (by simp) (by simp)
        (by simp) (by simp)]
      exact State.engineNow_settled hsettled c
  · rw [hpins, if_pos rfl, ownerByte, PinEntry.owner_setRest]
    exact State.answered_of_kept l _ rfl rfl rfl rfl rfl rfl
  · exact State.renews_renewed h (by simp)
  · constructor <;> simp
  · constructor <;> simp

end Sys2Proof.Machine
end

section
/-! Latches and causes through a step (R112): every happening that sets a latch trips the leases it reaches with its source,
CLEAR TRIP keeps the causes whose latch is set, and a claim is accepted only where no set latch would reach it. -/

namespace Sys2Proof.Machine

variable {s t : State}

/-! ## Sets of sources -/

theorem SourceSet.has_add (x : SourceSet) (c d : Source) : (x.add c).has d = (decide (d = c) || x.has d) := by
  cases c <;> cases d <;> rfl

theorem SourceSet.has_inter (x y : SourceSet) (c : Source) : (x.inter y).has c = (x.has c && y.has c) := by
  cases c <;> rfl

theorem SourceSet.has_empty (c : Source) : SourceSet.empty.has c = false := by cases c <;> rfl

theorem SourceSet.has_diff (x y : SourceSet) (c : Source) : (x.diff y).has c = (x.has c && !y.has c) := by
  cases c <;> rfl

theorem SourceSet.ext_has {x y : SourceSet} (h : ∀ c, x.has c = y.has c) : x = y := by
  cases x
  cases y
  exact SourceSet.mk.injEq .. ▸ ⟨h .flt0, h .flt1, h .supply, h .halt, h .lapse⟩

/-- A set lies within another where nothing is left of it (R112). -/
theorem SourceSet.diff_eq_empty_iff {x y : SourceSet} :
    x.diff y = SourceSet.empty ↔ ∀ c, x.has c = true → y.has c = true := by
  have hleft (c : Source) : (x.diff y).has c = false ↔ (x.has c = true → y.has c = true) := by
    rw [SourceSet.has_diff]
    cases x.has c <;> cases y.has c <;> decide
  refine ⟨fun h c => (hleft c).1 (h ▸ SourceSet.has_empty c), fun h => SourceSet.ext_has fun c => ?_⟩
  rw [(hleft c).2 (h c), SourceSet.has_empty]

/-! ## One lease record -/

/-- Whether a set latch of a source reaches a lease, by the lease's subscription (R110). -/
def Source.reaches (sub : FaultSet) : Source → Bool
  | .flt0 => sub.flt0
  | .flt1 => sub.flt1
  | .supply => true
  | .halt => true
  | .lapse => false

/-- The latches that reach a lease are the set ones whose source reaches it (R110). -/
theorem TripUnit.has_reachesLease {u : TripUnit} {r : LeaseRecord} {c : Source} :
    (u.reachesLease r).has c = true ↔ u.latches.has c = true ∧ c.reaches r.subscription = true := by
  cases c <;> simp [TripUnit.reachesLease, TripUnit.latches, SourceSet.has, Source.reaches]

/-- A lease record holds as a cause the source of every set latch that reaches it (R112). -/
def LeaseRecord.HoldsLatches (r : LeaseRecord) (u : TripUnit) : Prop :=
  ∀ c, u.latches.has c = true → c.reaches r.subscription = true → r.causes.has c = true

/-- A lease that keeps its subscription and every cause still holds the latches it held, where no more are set. -/
theorem LeaseRecord.HoldsLatches.mono {r r' : LeaseRecord} {u u' : TripUnit} (h : r.HoldsLatches u)
    (hlatches : ∀ c, u'.latches.has c = true → u.latches.has c = true) (hsub : r'.subscription = r.subscription)
    (hcauses : ∀ c, r.causes.has c = true → r'.causes.has c = true) : r'.HoldsLatches u' :=
  fun c hc hreach => hcauses c (h c (hlatches c hc) (hsub ▸ hreach))

/-- A trip adds its cause and keeps every other (R3, R111). -/
theorem LeaseRecord.has_causes_trip (r : LeaseRecord) (c d : Source) :
    (r.trip c).causes.has d = (decide (d = c) || r.causes.has d) := by
  simp only [LeaseRecord.causes, LeaseRecord.trip]
  cases r.phase <;> simp only [Phase.trip, SourceSet.has_add]

theorem LeaseRecord.causes_atBoundary (r : LeaseRecord) :
    r.atBoundary.causes = r.causes ∧ r.atBoundary.subscription = r.subscription := by
  unfold LeaseRecord.atBoundary LeaseRecord.causes
  cases hp : r.phase with
  | draining plan => cases plan <;> simp [hp]
  | _ => simp [hp]

theorem LeaseRecord.causes_of_amendable {r : LeaseRecord} (h : r.phase.amendable = true) : r.causes = SourceSet.empty := by
  unfold LeaseRecord.causes
  cases hp : r.phase <;> simp [hp, Phase.amendable] at h ⊢

/-! ## The relation through the shared operations -/

theorem State.latchesHeld_iff : s.LatchesHeld ↔ (∀ (k : LeaseNo) r, s.leases[k] = some r → r.HoldsLatches s.trip)
    ∧ (s.resetHeld = true → ∀ k : LeaseNo, s.leases[k] = none) := by
  simp only [State.LatchesHeld, leaseHas_iff, SourceSet.diff_eq_empty_iff, LeaseRecord.HoldsLatches,
    TripUnit.has_reachesLease, and_imp]

/-- Where no lease is claimed, the relation is kept if each lease that stays keeps it, since a reset holds none. -/
theorem State.LatchesHeld.of_leases (h : s.LatchesHeld) (hheld : t.resetHeld = true → s.resetHeld = true)
    (hl : ∀ (k : LeaseNo) r', t.leases[k] = some r' →
      ∃ r, s.leases[k] = some r ∧ (r.HoldsLatches s.trip → r'.HoldsLatches t.trip)) : t.LatchesHeld := by
  obtain ⟨hcauses, hfree⟩ := State.latchesHeld_iff.1 h
  refine State.latchesHeld_iff.2 ⟨fun k r' hr' => ?_, fun hreset k => ?_⟩
  · obtain ⟨r, hr, hmono⟩ := hl k r' hr'
    exact hmono (hcauses k r hr)
  · refine Option.eq_none_iff_forall_ne_some.2 fun r' hr' => ?_
    obtain ⟨r, hr, -⟩ := hl k r' hr'
    rw [hfree (hheld hreset) k] at hr
    cases hr

/-- The relation is kept where the leases are and no further latch is set. -/
theorem State.LatchesHeld.of_latches (h : s.LatchesHeld) (hl : t.leases = s.leases)
    (hheld : t.resetHeld = true → s.resetHeld = true)
    (ht : ∀ c, t.trip.latches.has c = true → s.trip.latches.has c = true) : t.LatchesHeld :=
  h.of_leases hheld fun _ r hr => ⟨r, hl ▸ hr, fun hholds => hholds.mono ht rfl fun _ => id⟩

/-- The relation reads the leases, the Trip Unit and the hold of a reset alone. -/
theorem State.LatchesHeld.congr (h : s.LatchesHeld) (hl : t.leases = s.leases) (ht : t.trip = s.trip)
    (hheld : t.resetHeld = s.resetHeld) : t.LatchesHeld :=
  h.of_latches hl (fun hreset => hheld ▸ hreset) fun _ hc => ht ▸ hc

/-- A trip keeps the relation, and so it does with the latch of its cause newly set, where it reaches every lease which
that latch reaches (R110, R111). -/
theorem State.LatchesHeld.takeTrip_of {reached : LeaseRecord → Bool} {cause : Source} (h : s.LatchesHeld)
    (hl : t.leases = s.leases) (hheld : t.resetHeld = s.resetHeld)
    (ht : ∀ c, t.trip.latches.has c = true → s.trip.latches.has c = true
      ∨ c = cause ∧ ∀ r : LeaseRecord, cause.reaches r.subscription = true → reached r = true) :
    (t.takeTrip reached cause).LatchesHeld := by
  refine h.of_leases (by rw [State.takeTrip_resetHeld, hheld]; exact id) fun k r' hr' => ?_
  rw [Fin.getElem_fin, State.leases_takeTrip, hl, ← Fin.getElem_fin, Option.map_eq_some_iff] at hr'
  obtain ⟨r, hr, rfl⟩ := hr'
  refine ⟨r, hr, fun hholds c hc hreach => ?_⟩
  rw [State.takeTrip_trip] at hc
  split at hreach
  · rename_i hreached
    rw [if_pos hreached, LeaseRecord.has_causes_trip, Bool.or_eq_true, decide_eq_true_iff]
    exact (ht c hc).symm.imp And.left fun hset => hholds c hset hreach
  · rename_i hmissed
    rw [if_neg hmissed]
    rcases ht c hc with hset | ⟨rfl, hall⟩
    · exact hholds c hset hreach
    · exact absurd (hall r hreach) hmissed

section operations

variable (h : s.LatchesHeld)
include h

theorem State.LatchesHeld.takeTrip (reached : LeaseRecord → Bool) (cause : Source) :
    (s.takeTrip reached cause).LatchesHeld := h.takeTrip_of rfl rfl fun _ => .inl

theorem State.LatchesHeld.refresh : s.refresh.LatchesHeld := h.congr (by simp) (by simp) (by simp)

theorem State.LatchesHeld.setLink (l : Link) (p : LinkPort) : (s.setLink l p).LatchesHeld :=
  h.congr (by simp) (by simp) (by simp)

theorem State.LatchesHeld.setSession (n : SessionNo) (r : Session) : (s.setSession n r).LatchesHeld :=
  h.congr (by simp) (by simp) (by simp)

theorem State.LatchesHeld.setTimebase (tb : TimebaseNo) (y : Timebase) : (s.setTimebase tb y).LatchesHeld :=
  h.congr (by simp) (by simp) (by simp)

theorem State.LatchesHeld.setCarrierUnit (c : Carrier) (u : CarrierUnit) : (s.setCarrierUnit c u).LatchesHeld :=
  h.congr (by simp) (by simp) (by simp)

theorem State.LatchesHeld.place (l : Link) (r : Response) : (s.place l r).LatchesHeld :=
  h.congr (by simp) (by simp) (by simp)

theorem State.LatchesHeld.freeLeases (which : LeaseNo → Bool) : (s.freeLeases which).LatchesHeld := by
  refine h.of_leases (by simp) fun k r' hr' => ?_
  rw [Fin.getElem_fin, State.leases_freeLeases, Option.ite_none_left_eq_some] at hr'
  exact ⟨r', hr'.2, by simp⟩

theorem State.LatchesHeld.moveBoundary (tb : TimebaseNo) (x : TimebaseRun) : (s.moveBoundary tb x).LatchesHeld := by
  have htrip : (s.moveBoundary tb x).trip = s.trip := by simp [State.moveBoundary]
  refine h.of_leases (by simp [State.moveBoundary]) fun k r' hr' => ?_
  rw [Fin.getElem_fin, State.leases_moveBoundary, ← Fin.getElem_fin, Option.map_eq_some_iff] at hr'
  obtain ⟨r, hr, rfl⟩ := hr'
  refine ⟨r, hr, fun hholds => ?_⟩
  rw [htrip]
  split
  · obtain ⟨hcauses, hsub⟩ := r.causes_atBoundary
    exact hholds.mono (fun _ => id) hsub fun c hc => by rwa [hcauses]
  · exact hholds

theorem State.LatchesHeld.takeBoundary (tb : TimebaseNo) (x : TimebaseRun) : (s.takeBoundary tb x).LatchesHeld := by
  rw [State.takeBoundary_eq]
  exact (h.moveBoundary tb x).freeLeases _

/-- A lease record replaced by one that holds the latches, if it held them, keeps the relation. -/
theorem State.LatchesHeld.of_put {k : LeaseNo} {x x' : LeaseRecord} (hx : s.leases[k] = some x)
    (hl : ∀ j : LeaseNo, t.leases[j] = if j = k then some x' else s.leases[j]) (ht : t.trip = s.trip)
    (hheld : t.resetHeld = s.resetHeld) (hmono : x.HoldsLatches s.trip → x'.HoldsLatches s.trip) : t.LatchesHeld := by
  refine h.of_leases (by rw [hheld]; exact id) fun j r' hr' => ?_
  rw [hl] at hr'
  rw [ht]
  split at hr'
  · rename_i hj
    cases hr'
    exact ⟨x, hj ▸ hx, hmono⟩
  · exact ⟨r', hr', id⟩

theorem State.LatchesHeld.stageChange {k : LeaseNo} {x : LeaseRecord} {staged : List Settings}
    (hx : s.leases[k] = some x) (hp : x.phase.amendable = true) : (s.stageChange k x staged).LatchesHeld := by
  refine h.of_put (x' := { x with phase := .amendPending staged }) hx
    (fun j => by simp only [Fin.getElem_fin, State.leases_stageChange, Fin.ext_iff]) (by simp) (by simp)
    fun hholds => hholds.mono (fun _ => id) rfl fun c hc => ?_
  rw [LeaseRecord.causes_of_amendable hp, SourceSet.has_empty] at hc
  cases hc

theorem State.LatchesHeld.retireLease {k : LeaseNo} {x : LeaseRecord} (hx : s.leases[k] = some x) (m : RetireMode) :
    (s.retireLease k x m).LatchesHeld := by
  unfold State.retireLease
  split
  · exact h.freeLeases _
  · rename_i plan hplan
    refine h.of_put (x' := { x with phase := .draining plan }) hx
      (fun j => by simp only [Fin.getElem_fin, State.leases_startDrain, Fin.ext_iff]) (by simp) (by simp)
      fun hholds => hholds.mono (fun _ => id) rfl fun c hc => ?_
    rw [LeaseRecord.causes_of_amendable (RetireMode.plan_eq_some hplan).1, SourceSet.has_empty] at hc
    cases hc

theorem State.LatchesHeld.putLease {k : LeaseNo} {x x' : LeaseRecord} (hx : s.leases[k] = some x)
    (hmono : x.HoldsLatches s.trip → x'.HoldsLatches s.trip) : (s.putLease k (some x')).LatchesHeld :=
  h.of_put hx (fun j => by simp only [Fin.getElem_fin, State.leases_putLease, Fin.ext_iff]) (by simp) (by simp) hmono

/-- CLEAR TRIP keeps every cause whose latch is set, and so every cause that the relation asks for (R113 to R115). -/
theorem State.LatchesHeld.clearLease {k : LeaseNo} {x : LeaseRecord} (hx : s.leases[k] = some x) :
    (s.clearLease k x).LatchesHeld := by
  have hremain {c : Source} (hholds : x.HoldsLatches s.trip) (hc : s.trip.latches.has c = true)
      (hreach : c.reaches x.subscription = true) : (x.causes.inter s.trip.latches).has c = true := by
    rw [SourceSet.has_inter, hholds c hc hreach, hc, Bool.and_self]
  unfold State.clearLease
  split
  · exact h.putLease hx fun hholds c => hremain hholds
  · rename_i hnone
    split
    · exact h.freeLeases _
    · refine h.putLease hx fun hholds c hc hreach => ?_
      have := hremain hholds hc hreach
      rw [not_not.1 hnone, SourceSet.has_empty] at this
      cases this

theorem State.LatchesHeld.lapseSession (n : SessionNo) : (s.lapseSession n).LatchesHeld := by
  rcases s.lapseSession_cases n with heq | ⟨r, x, -, -, heq⟩ <;> rw [heq]
  · exact h
  · exact (h.setSession n _).takeTrip _ _

theorem State.LatchesHeld.closeSession (n : SessionNo) : (s.closeSession n).LatchesHeld :=
  (h.freeLeases _).setSession n none

theorem State.LatchesHeld.timerHappening (n : SessionNo) : (s.timerHappening n).LatchesHeld := by
  rcases s.timerHappening_cases n with heq | ⟨r, x, -, heq, -⟩ | heq | heq <;> rw [heq]
  · exact h
  · exact h.setSession n _
  · exact h.lapseSession n
  · exact h.closeSession n

/-- Operations that keep the relation, taken one after the other, keep it. -/
theorem State.LatchesHeld.foldl {α : Type} {f : State → α → State}
    (hf : ∀ (u : State) a, u.LatchesHeld → (f u a).LatchesHeld) (xs : List α) : (xs.foldl f s).LatchesHeld := by
  induction xs generalizing s with
  | nil => exact h
  | cons x xs ih => exact ih (hf s x h)

/-! ## Latches set with their trips (R105, R107, R110) -/

/-- A change of the Trip Unit that sets no latch keeps the relation. -/
theorem State.LatchesHeld.setTrip {u : TripUnit} (hu : ∀ c, u.latches.has c = true → s.trip.latches.has c = true) :
    ({ s with trip := u } : State).LatchesHeld := h.of_latches rfl id hu

/-- A change of a fault input that leaves its latch as it was changes no latch. -/
theorem State.LatchesHeld.setInput (i : FaultLine) {x : FaultInput} (hx : x.latch = (s.trip.input i).latch) :
    (s.setInput i x).LatchesHeld := by
  have hlatches : (s.setInput i x).trip.latches = s.trip.latches := by
    cases i <;> simpa [State.setInput, TripUnit.latches, TripUnit.input] using hx
  exact h.of_latches (by simp) (by simp) fun c hc => hlatches ▸ hc

/-- The latch of an input set with the trip of its source, which reaches the leases that subscribe to it (R105, R110). -/
theorem State.LatchesHeld.setInputLatch (i : FaultLine) : (s.setInputLatch i).LatchesHeld := by
  have hlatches : (s.setInput i { s.trip.input i with latch := true }).trip.latches
      = s.trip.latches.add (lineSource i) := by cases i <;> rfl
  have hreach (r : LeaseRecord) : (lineSource i).reaches r.subscription = true → subscribedTo i r = true := by
    cases i <;> exact id
  rcases s.setInputLatch_cases i with ⟨-, heq⟩ | ⟨-, heq⟩ <;> rw [heq]
  · exact h
  · refine h.takeTrip_of (by simp) (by simp) fun c hc => ?_
    rw [hlatches, SourceSet.has_add, Bool.or_eq_true, decide_eq_true_iff] at hc
    exact hc.symm.imp_right fun hcause => ⟨hcause, hreach⟩

/-- A latch whose source reaches every lease, set with the trip that reaches every lease (R107, R108, R110). -/
theorem State.LatchesHeld.takeTrip_all {u : TripUnit} {cause : Source} (hu : u.latches = s.trip.latches.add cause) :
    (({ s with trip := u } : State).takeTrip (fun _ => true) cause).LatchesHeld :=
  h.takeTrip_of rfl rfl fun c hc => by
    have hadd : (s.trip.latches.add cause).has c = true := hu ▸ hc
    rw [SourceSet.has_add, Bool.or_eq_true, decide_eq_true_iff] at hadd
    exact hadd.symm.imp_right fun hcause => ⟨hcause, fun _ _ => rfl⟩

theorem State.LatchesHeld.setSupplyLatch : s.setSupplyLatch.LatchesHeld := by
  rcases s.setSupplyLatch_cases with ⟨-, heq⟩ | ⟨-, heq⟩ <;> rw [heq]
  · exact h
  · exact h.takeTrip_all rfl

/-- The supply low condition is no latch (R103). -/
theorem State.LatchesHeld.setSupplyLow (low : Bool) :
    ({ s with trip := { s.trip with supplyLow := low } } : State).LatchesHeld := h.setTrip fun _ => id

theorem State.LatchesHeld.setSupply (mv : Nat) : ({ s with supplyMv := mv } : State).LatchesHeld := h.congr rfl rfl rfl

theorem State.LatchesHeld.supplyFell : s.supplyFell.LatchesHeld := by
  unfold State.supplyFell
  split
  · exact (h.setSupplyLow true).setSupplyLatch
  · exact h

theorem State.LatchesHeld.supplyRose : s.supplyRose.LatchesHeld := by
  unfold State.supplyRose
  split
  · exact h.setSupplyLow false
  · exact h

theorem State.LatchesHeld.compareSupply : s.compareSupply.LatchesHeld := by
  unfold State.compareSupply
  split
  · exact (h.setSupplyLow true).setSupplyLatch
  · split
    · exact h.setSupplyLow false
    · exact h

theorem State.LatchesHeld.selectEdge (i : FaultLine) (e : Edge) : (s.selectEdge i e).LatchesHeld := by
  have hselect := h.setInput i (x := (s.trip.input i).select e) rfl
  simp only [State.selectEdge]
  split
  · exact hselect.setInputLatch i
  · exact hselect

/-! ## Transactions -/

theorem State.LatchesHeld.selectLink (l : Link) : (s.selectLink l).LatchesHeld := by
  unfold State.selectLink
  split
  · exact h
  · exact h.setLink l _

theorem State.LatchesHeld.shiftFree (l : Link) (n : Nat) : (s.shiftFree l n).LatchesHeld :=
  (h.setLink l _).congr rfl rfl rfl

theorem State.LatchesHeld.shiftIgnored (l : Link) (due : Option Byte) (n : Nat) : (s.shiftIgnored l due n).LatchesHeld := by
  unfold State.shiftIgnored
  split
  · split
    · exact h
    · exact h.shiftFree l _
  · exact h
  · split
    · exact h.setLink l _
    · exact (h.setLink l _).shiftFree l _

theorem State.LatchesHeld.firstByte (l : Link) (b : Byte) : (s.firstByte l b).LatchesHeld := by
  simp only [State.firstByte]
  split
  · split
    · split <;> exact h.setLink l _
    all_goals exact h.setLink l _
  · exact h.shiftIgnored l _ _
  all_goals exact h

theorem State.LatchesHeld.moreBytes (l : Link) (bs : List Byte) : (s.moreBytes l bs).LatchesHeld := by
  simp only [State.moreBytes]
  split
  · split
    · exact h.setLink l _
    all_goals exact h
  · exact h.setLink l _
  · exact h.setLink l _
  · exact h.setLink l _
  · exact h.shiftIgnored l _ _
  all_goals exact h

theorem State.LatchesHeld.clearedLink (l : Link) (drop : Bool) : (s.clearedLink l drop).LatchesHeld := by
  simp only [State.clearedLink]
  split
  · refine (h.setLink l _).foldl (fun u n hu => ?_) _
    split
    · exact hu.lapseSession n
    · exact hu
  · exact h.setLink l _

theorem State.LatchesHeld.endTransaction (l : Link) : (s.endTransaction l).LatchesHeld := h.setLink l _

theorem State.LatchesHeld.riseLink (l : Link) : (s.riseLink l).LatchesHeld := by
  have hend : (s.endTransaction l).LatchesHeld := h.endTransaction l
  have hset (p : LinkPort) : ((s.setLink l p).endTransaction l).LatchesHeld := (h.setLink l p).endTransaction l
  simp only [State.riseLink]
  split
  · exact h
  · split
    · exact hset _
    all_goals exact hend
  · exact hset _
  · split
    · exact hset _
    · exact hend
  · exact hend
  · split
    · exact (h.clearedLink l false).endTransaction l
    · split
      · exact (h.clearedLink l true).endTransaction l
      · exact hend
  · exact hend
  · exact hend

theorem State.LatchesHeld.transact (row : TransactionRow) (l : Link) (m : Moment) : (s.transact row l m).LatchesHeld := by
  cases m with
  | select => exact h.selectLink l
  | whole b rest =>
    simp only [State.transact, State.wholeTransaction]
    split
    · exact (((h.selectLink l).firstByte l b).moreBytes l rest).riseLink l
    · exact h
  | first b =>
    simp only [State.transact]
    split
    · exact h.firstByte l b
    · exact h
  | more bs =>
    simp only [State.transact]
    split
    · exact h.moreBytes l bs
    · exact h
  | rise =>
    simp only [State.transact]
    split
    · exact h.riseLink l
    · exact h

end operations

theorem State.latchesHeld_fullReset (s : State) : s.fullReset.LatchesHeld :=
  State.latchesHeld_iff.2 ⟨fun k r hr => by simp [s.lease_fullReset k] at hr, fun _ => s.lease_fullReset⟩

/-- An accepted claim is of a lease that no set latch reaches (R34), while no reset is held. -/
theorem State.LatchesHeld.performClaim (h : s.LatchesHeld) (hheld : s.resetHeld = false) {q : ClaimRequest}
    (hlatches : s.latchesAgainst q.subscription = SourceSet.empty) (n : SessionNo) (k : LeaseNo) (bs : List Binding) :
    (s.performClaim n q k bs).LatchesHeld := by
  refine State.latchesHeld_iff.2 ⟨fun j r hr => ?_, fun hreset => ?_⟩
  · rw [State.performClaim_trip]
    rw [Fin.getElem_fin, State.leases_performClaim, ← Fin.getElem_fin] at hr
    split at hr
    · cases hr
      intro c hc hreach
      have hset : (s.latchesAgainst q.subscription).has c = true :=
        (TripUnit.has_reachesLease (r := q.record n bs)).2 ⟨hc, hreach⟩
      rw [hlatches, SourceSet.has_empty] at hset
      cases hset
    · exact (State.latchesHeld_iff.1 h).1 j r hr
  · rw [State.performClaim_resetHeld, hheld] at hreset
    cases hreset

/-! ## Commands -/

/-- What a command performs keeps the relation, where its own checks accept it and no reset is held. -/
def KeepsLatches (p : Performed) : Prop := ∀ x, p = .ok x → x.1.LatchesHeld

theorem keepsLatches_ok {resp : Response} (h : t.LatchesHeld) : KeepsLatches (.ok (t, resp)) := by
  rintro _ ⟨⟩
  exact h

/-- A check passed before the effect: what follows may use what it answered. -/
theorem keepsLatches_bind {α : Type} {x : Except Reject α} {f : α → Performed} (h : ∀ a, x = .ok a → KeepsLatches (f a)) :
    KeepsLatches (x >>= f) := fun y hy => by
  obtain ⟨a, ha, hf⟩ := bind_eq_ok.1 hy
  exact h a ha y hf

theorem State.LatchesHeld.takeSession (h : s.LatchesHeld) (hheld : s.resetHeld = false) {c : Command}
    {perform : State → SessionNo → List Byte → Performed}
    (hp : ∀ u n ps, u.LatchesHeld → u.resetHeld = false → KeepsLatches (perform u n ps)) :
    (s.takeSession c perform).LatchesHeld := by
  have hrenewed (n : SessionNo) : (s.renewed n).LatchesHeld := h.setSession n _
  unfold State.takeSession
  split
  · exact h
  split
  · rename_i l f _ _
    refine State.LatchesHeld.place ?_ _ _
    unfold State.serveSession
    split
    · exact h
    · rename_i n _
      cases hperform : perform (s.renewed n) n f.params with
      | error e => exact hrenewed n
      | ok x => exact hp _ _ _ (hrenewed n) hheld x hperform
  · exact h

theorem State.LatchesHeld.takeOpenSession (h : s.LatchesHeld) : s.takeOpenSession.LatchesHeld := by
  unfold State.takeOpenSession
  split
  · exact h
  split
  · rename_i l f _ _
    refine State.LatchesHeld.place ?_ _ _
    cases hp : (do checkLength .openSession f; performOpenSession s l f.params : Performed) with
    | error e => exact h
    | ok x =>
      refine keepsLatches_bind (fun _ _ => ?_) x hp
      exact keepsLatches_bind fun _ _ => keepsLatches_bind fun _ _ => keepsLatches_bind fun _ _ =>
        keepsLatches_bind fun n _ => keepsLatches_ok (h.setSession n _)
  · exact h

theorem State.LatchesHeld.takeBadCommand (h : s.LatchesHeld) : s.takeBadCommand.LatchesHeld := by
  unfold State.takeBadCommand
  split
  · exact h
  · split
    · exact h
    · exact h.place _ _

/-- READ FAULTS clears latches and sets none (R118). -/
theorem TripUnit.has_latches_clearLatches {u : TripUnit} {mask : SourceSet} {c : Source}
    (hc : (u.clearLatches mask).latches.has c = true) : u.latches.has c = true := by
  cases c <;> simp_all [TripUnit.latches, TripUnit.clearLatches, FaultInput.clearLatch, SourceSet.has]

section commands

variable {n : SessionNo} {ps : List Byte} (h : s.LatchesHeld)
include h

theorem keepsLatches_claim (hheld : s.resetHeld = false) : KeepsLatches (performClaimCommand s n ps) :=
  keepsLatches_bind fun _ _ => keepsLatches_bind fun k _ => keepsLatches_bind fun _ _ => keepsLatches_bind fun _ _ =>
    keepsLatches_bind fun _ _ => keepsLatches_bind fun _ _ => keepsLatches_bind fun _ _ => keepsLatches_bind fun _ _ =>
      keepsLatches_bind fun _ hlatches => keepsLatches_bind fun _ _ =>
        keepsLatches_ok (h.performClaim hheld (beq_iff_eq.1 (check_eq_ok.1 hlatches)) n k _)

theorem keepsLatches_amend : KeepsLatches (performAmend s n ps) := fun x hx => by
  obtain ⟨k, r, staged, hfits, heq⟩ := performAmend_ok s (t := x.1) (resp := x.2) hx
  rw [heq]
  exact h.stageChange hfits.lease hfits.phase

theorem keepsLatches_retire : KeepsLatches (performRetire s n ps) :=
  keepsLatches_bind fun _ _ => keepsLatches_bind fun _ _ => keepsLatches_bind fun m _ => keepsLatches_bind fun _ hr =>
    keepsLatches_ok (h.retireLease (checkPhase_eq_ok.1 hr).1 m)

theorem keepsLatches_clearTrip : KeepsLatches (performClearTrip s n ps) :=
  keepsLatches_bind fun _ _ => keepsLatches_bind fun _ _ => keepsLatches_bind fun _ hr =>
    keepsLatches_ok (h.clearLease (checkPhase_eq_ok.1 hr).1)

theorem keepsLatches_retune : KeepsLatches (performRetune s n ps) :=
  keepsLatches_bind fun tb _ => keepsLatches_bind fun _ _ => keepsLatches_bind fun _ _ => keepsLatches_bind fun _ _ =>
    keepsLatches_bind fun _ _ => keepsLatches_ok (h.setTimebase tb _)

/-- ADOPT moves the holder of a lease, and with it no cause (R138). -/
theorem keepsLatches_adopt : KeepsLatches (performAdopt s n ps) :=
  keepsLatches_bind fun _ _ => keepsLatches_bind fun _ _ => keepsLatches_bind fun r hr => keepsLatches_bind fun _ _ =>
    keepsLatches_ok ((h.setSession r.holder _).putLease (s.checkAdoptable_eq_ok hr) id)

theorem keepsLatches_readNotices : KeepsLatches (performReadNotices s n ps) := by
  unfold performReadNotices
  split
  · exact keepsLatches_ok h
  · exact keepsLatches_ok (h.setSession n _)

theorem keepsLatches_readFaults : KeepsLatches (performReadFaults s n ps) :=
  keepsLatches_bind fun _ _ => keepsLatches_ok (h.setTrip fun _ => TripUnit.has_latches_clearLatches)

theorem keepsLatches_releaseHalt : KeepsLatches (performReleaseHalt s n ps) :=
  keepsLatches_bind fun _ _ => keepsLatches_ok (h.setTrip fun c hc => by
    cases c with
    | halt => cases hc
    | _ => exact hc)

theorem keepsLatches_haltAll : KeepsLatches (performHaltAll s n ps) :=
  keepsLatches_bind fun _ _ => by
    split
    · exact keepsLatches_ok h
    · exact keepsLatches_ok (h.takeTrip_all rfl)

theorem keepsLatches_queryLease : KeepsLatches (performQueryLease s n ps) :=
  keepsLatches_bind fun _ _ => keepsLatches_bind fun _ _ => by
    split
    · exact keepsLatches_ok h
    · exact keepsLatches_bind fun _ _ => keepsLatches_ok h

theorem keepsLatches_setPinRest : KeepsLatches (performSetPinRest s n ps) :=
  keepsLatches_bind fun _ _ => keepsLatches_bind fun _ _ => keepsLatches_bind fun _ _ =>
    keepsLatches_ok (h.congr rfl rfl rfl)

theorem keepsLatches_setCarrier : KeepsLatches (performSetCarrier s n ps) :=
  keepsLatches_bind fun _ _ => keepsLatches_bind fun c _ => keepsLatches_bind fun _ _ => keepsLatches_bind fun _ _ =>
    keepsLatches_ok (h.setCarrierUnit c _)

theorem keepsLatches_setFaultEdge : KeepsLatches (performSetFaultEdge s n ps) :=
  keepsLatches_bind fun _ _ => keepsLatches_bind fun i _ => keepsLatches_bind fun e _ => keepsLatches_bind fun _ _ =>
    keepsLatches_ok (h.selectEdge i e)

theorem keepsLatches_setSupplyLevel : KeepsLatches (performSetSupplyLevel s n ps) :=
  keepsLatches_bind fun _ _ => keepsLatches_bind fun _ _ =>
    keepsLatches_ok (State.LatchesHeld.compareSupply (h.setTrip fun _ => id))

end commands

/-! ## A step -/

theorem State.LatchesHeld.happen (h : s.LatchesHeld) {f : State → State}
    (hf : s.resetHeld = false → (f s).LatchesHeld) (hstep : s.happen f = .next t) : t.LatchesHeld := by
  cases hheld : s.resetHeld with
  | true =>
    rw [State.happen_held f hheld] at hstep
    cases hstep
    exact h
  | false =>
    rw [State.happen_free f hheld] at hstep
    cases hstep
    exact (hf hheld).refresh

theorem exec_latchesHeld {i : Instr} (h : s.LatchesHeld) (hstep : exec i s = .next t) : t.LatchesHeld := by
  have served {c : Command} {perform : State → SessionNo → List Byte → Performed}
      (hp : ∀ u n ps, u.LatchesHeld → u.resetHeld = false → KeepsLatches (perform u n ps)) :
      (s.happen fun s => s.takeSession c perform) = .next t → t.LatchesHeld :=
    h.happen (f := fun s => s.takeSession c perform) fun hheld => h.takeSession hheld hp
  have query {c : Command} {perform : State → SessionNo → List Byte → Performed}
      (hp : ∀ u n ps t resp, perform u n ps = .ok (t, resp) → t = u) :
      (s.happen fun s => s.takeSession c perform) = .next t → t.LatchesHeld :=
    served fun u n ps hu _ x hx => hp u n ps x.1 x.2 hx ▸ hu
  cases i with
  | openSession => exact h.happen (fun _ => h.takeOpenSession) hstep
  | renew => exact served (fun _ _ _ hu _ => keepsLatches_ok hu) hstep
  | closeSession => exact served (fun _ n _ hu _ => keepsLatches_ok (hu.closeSession n)) hstep
  | claim => exact served (fun _ _ _ => keepsLatches_claim) hstep
  | amend => exact served (fun _ _ _ hu _ => keepsLatches_amend hu) hstep
  | retire => exact served (fun _ _ _ hu _ => keepsLatches_retire hu) hstep
  | clearTrip => exact served (fun _ _ _ hu _ => keepsLatches_clearTrip hu) hstep
  | retune => exact served (fun _ _ _ hu _ => keepsLatches_retune hu) hstep
  | adopt => exact served (fun _ _ _ hu _ => keepsLatches_adopt hu) hstep
  | readNotices => exact served (fun _ _ _ hu _ => keepsLatches_readNotices hu) hstep
  | readFaults => exact served (fun _ _ _ hu _ => keepsLatches_readFaults hu) hstep
  | querySession => exact query (fun _ _ _ _ _ => need_bind_ok) hstep
  | queryLease => exact served (fun _ _ _ hu _ => keepsLatches_queryLease hu) hstep
  | queryTimebase => exact query (fun _ _ _ _ _ => need_bind_ok) hstep
  | findByPin => exact query (fun _ _ _ _ _ => need_bind_ok) hstep
  | listLeases => exact query (fun _ _ _ _ _ => need_bind_ok) hstep
  | setPinRest => exact served (fun _ _ _ hu _ => keepsLatches_setPinRest hu) hstep
  | setCarrier => exact served (fun _ _ _ hu _ => keepsLatches_setCarrier hu) hstep
  | setFaultEdge => exact served (fun _ _ _ hu _ => keepsLatches_setFaultEdge hu) hstep
  | setSupplyLevel => exact served (fun _ _ _ hu _ => keepsLatches_setSupplyLevel hu) hstep
  | haltAll => exact served (fun _ _ _ hu _ => keepsLatches_haltAll hu) hstep
  | releaseHalt => exact served (fun _ _ _ hu _ => keepsLatches_releaseHalt hu) hstep
  | badCommand => exact h.happen (fun _ => h.takeBadCommand) hstep
  | commandFrame l m | fetch l m | clearLink l m | ignoredTransaction l m =>
    cases hstep
    exact (h.transact _ l m).refresh
  | count tb =>
    simp only [exec, execCount] at hstep
    refine h.happen (fun _ => ?_) hstep
    split
    · exact h
    · split
      · exact h
      · split
        · exact h.takeBoundary tb _
        · exact h.setTimebase tb _
  | boundary tb =>
    simp only [exec, execBoundary] at hstep
    refine h.happen (fun _ => ?_) hstep
    split
    · exact h
    · split
      · exact h
      · split
        · exact h.takeBoundary tb _
        · exact h
  | startBoundary tb =>
    simp only [exec, execStartBoundary] at hstep
    refine h.happen (fun _ => ?_) hstep
    split
    · exact h
    · split
      · exact h.takeBoundary tb _
      · exact h
  | carrierEdge c =>
    simp only [exec, execCarrierEdge] at hstep
    refine h.happen (fun _ => ?_) hstep
    split
    · exact h
    · exact h.setCarrierUnit c _
  | tick who =>
    simp only [exec, execTick] at hstep
    refine h.happen (fun _ => ?_) hstep
    cases who with
    | none => exact h.foldl (fun u n hu => hu.timerHappening n) _
    | some n => exact h.timerHappening n
  | lapse n =>
    refine h.happen (fun _ => ?_) hstep
    split
    · exact h.lapseSession n
    · exact h
  | holdExpiry n =>
    refine h.happen (fun _ => ?_) hstep
    split
    · exact h.closeSession n
    · exact h
  | faultInputChange i level =>
    cases hstep
    exact h.setInput i rfl
  | faultEdge i =>
    simp only [exec, execFaultEdge] at hstep
    refine h.happen (fun _ => ?_) hstep
    split
    · refine State.LatchesHeld.setInputLatch ?_ i
      exact h.setInput i rfl
    · exact h
  | faultRelease i =>
    simp only [exec, execFaultRelease] at hstep
    refine h.happen (fun _ => ?_) hstep
    split
    · exact h.setInput i rfl
    · exact h
  | supplyFall mv =>
    simp only [exec, execSupplyFall] at hstep
    repeat' split at hstep
    all_goals cases hstep
    · exact State.latchesHeld_fullReset _
    · exact h.setSupply mv
    · exact (h.setSupply mv).supplyFell.refresh
    · exact h
  | supplyRise mv =>
    simp only [exec, execSupplyRise] at hstep
    repeat' split at hstep
    all_goals cases hstep
    · exact h.setSupply mv
    · exact (h.setSupply mv).supplyRose.refresh
    · exact h
  | fullReset cause =>
    cases cause with
    | rstn lowNs =>
      simp only [exec, execFullReset] at hstep
      split at hstep <;> cases hstep
      · exact h
      · exact State.latchesHeld_fullReset _
    | powerOn =>
      cases hstep
      exact State.latchesHeld_fullReset _
    | supply mv =>
      simp only [exec, execFullReset] at hstep
      split at hstep <;> cases hstep
      · exact State.latchesHeld_fullReset _
      · exact h
  | resetRelease =>
    simp only [exec, execResetRelease] at hstep
    repeat' split at hstep
    all_goals cases hstep
    · rename_i hheld _
      refine State.LatchesHeld.refresh (h.of_leases (fun hreset => by cases hreset) fun k r hr => ?_)
      exact absurd (hr.symm.trans ((State.latchesHeld_iff.1 h).2 hheld k)) (by simp)
    · exact h.congr rfl rfl rfl
    · exact h

/-- Settles O56: each happening keeps the relation, so every step does. -/
theorem stepsKeepTheLatchesHeld : Obligations.StepsKeepTheLatchesHeld := by
  unfold Obligations.StepsKeepTheLatchesHeld
  intro s t h hstep
  unfold step at hstep
  split at hstep
  · cases hstep
    exact h
  · refine exec_latchesHeld ?_ hstep
    exact h.congr rfl rfl rfl

end Sys2Proof.Machine
end

section
/-! A trip as the manual gives it (R110, R111, R145): the leases it reaches, their engines and their holders' notices. -/

namespace Sys2Proof.Machine

variable {s t u : State} {reached : LeaseRecord → Bool} {cause : Source}

/-! ## The tables of the leases -/

/-- The tables that the leases and the outputs are read from. -/
def State.tables (s : State) :=
  (s.leases, s.channels, s.timebases, s.engines, s.pins, s.carrierA, s.carrierB)

@[simp] theorem State.tables_setSession (s : State) (n : SessionNo) (r : Session) : (s.setSession n r).tables = s.tables := by
  simp [State.tables]

@[simp] theorem State.tables_renewed (s : State) (n : SessionNo) : (s.renewed n).tables = s.tables := by simp [State.tables]

@[simp] theorem State.tables_setInput (s : State) (i : FaultLine) (x : FaultInput) : (s.setInput i x).tables = s.tables := by
  simp [State.tables]

@[simp] theorem State.tables_place (s : State) (l : Link) (r : Response) : (s.place l r).tables = s.tables := by
  simp [State.tables]

theorem State.tables_eq_iff : t.tables = s.tables ↔ t.leases = s.leases ∧ t.channels = s.channels
    ∧ t.timebases = s.timebases ∧ t.engines = s.engines ∧ t.pins = s.pins ∧ t.carrierA = s.carrierA
    ∧ t.carrierB = s.carrierB := by
  simp only [State.tables, Prod.mk.injEq]

/-- What a trip makes of the tables depends on the tables alone. -/
theorem State.tables_takeTrip (h : t.tables = s.tables) (reached : LeaseRecord → Bool) (cause : Source) :
    (t.takeTrip reached cause).tables = (s.takeTrip reached cause).tables := by
  obtain ⟨hl, hc, ht, he, hp, hA, hB⟩ := State.tables_eq_iff.1 h
  simp only [State.tables, State.takeTrip, State.setLeases, State.mapEngines, State.recordNotices, hl, hc, ht, he, hp, hA, hB]

theorem State.leasesKept_of_tables (h : t.tables = s.tables) : s.LeasesKept t.refresh := by
  obtain ⟨hl, hc, ht, -, -, hA, hB⟩ := State.tables_eq_iff.1 h
  constructor <;> simpa

theorem State.outputsKept_of_tables (hs : s.Settled) (h : t.tables = s.tables) : s.OutputsKept t.refresh := by
  obtain ⟨hl, -, ht, he, hp, hA, hB⟩ := State.tables_eq_iff.1 h
  exact State.outputsKept_of_kept hs hl ht hA hB he hp

/-! ## A trip taken -/

theorem LeaseRecord.isTripped_trip (r : LeaseRecord) (cause : Source) : r.IsTripped (r.trip cause) cause := by
  unfold LeaseRecord.IsTripped LeaseRecord.trip
  cases r.phase <;> rfl

theorem Engine.lease?_of_use {e : Engine} {v : EngineUse} (hv : e.use? = some v) : e.lease? = some v.place.lease := by
  rw [Engine.lease?_eq, Engine.place?_eq_map_use?, hv]
  rfl

/-- An engine of a lease that a trip reaches is HELD with no staged settings (R87, R111). -/
theorem State.engine_takeTrip_hit {c : ChannelNo} {v : EngineUse} (hv : s.engines[c].use? = some v)
    (hhit : s.leases[v.place.lease].any reached = true) :
    (s.takeTrip reached cause).engines[c] = .held { v with staged := none } := by
  rw [Fin.getElem_fin, State.engines_takeTrip, ← Fin.getElem_fin, Engine.lease?_of_use hv]
  dsimp only
  rw [reaches, if_pos hhit]
  cases he : s.engines[c] <;> rw [he] at hv <;> cases hv <;> rfl

/-- An engine that serves no lease that a trip reaches is as it was (R111). -/
theorem State.engine_takeTrip_missed {c : ChannelNo}
    (hmiss : ∀ v, s.engines[c].use? = some v → s.leases[v.place.lease].any reached = false) :
    (s.takeTrip reached cause).engines[c] = s.engines[c] := by
  rw [Fin.getElem_fin, State.engines_takeTrip, ← Fin.getElem_fin]
  cases hv : s.engines[c].use? with
  | none =>
    have hnone : s.engines[c].lease? = none := by rw [Engine.lease?_eq, Engine.place?_eq_map_use?, hv]; rfl
    rw [hnone]
  | some v =>
    rw [Engine.lease?_of_use hv]
    dsimp only
    rw [reaches, hmiss v hv, if_neg Bool.false_ne_true]

theorem State.carrier_takeTrip (s : State) (reached : LeaseRecord → Bool) (cause : Source) (c : Carrier) :
    (s.takeTrip reached cause).carrier c
      = (s.carrier c).recount (carrierUses s.leases c) (carrierUses (s.takeTrip reached cause).leases c) := by
  cases c <;> rfl

/-- A state with the tables that a trip leaves, once brought up to date, has taken the trip. -/
theorem State.tripTaken_of_tables (hs : s.CountsAgree) (h : u.tables = (s.takeTrip reached cause).tables) :
    s.TripTaken u.refresh reached cause := by
  obtain ⟨hl, hc, ht, he, hp, hA, hB⟩ := State.tables_eq_iff.1 h
  have hlease (k : LeaseNo) : u.refresh.leases[k] = s.leases[k].map fun r => if reached r then r.trip cause else r := by
    rw [State.refresh_leases, hl, Fin.getElem_fin, State.leases_takeTrip, Fin.getElem_fin]
  have hcarrier (c : Carrier) : u.refresh.carrier c = (s.takeTrip reached cause).carrier c := by
    cases c <;> simp [State.carrier, hA, hB]
  have hcounts : (s.takeTrip reached cause).CountsAgree := (State.TableMove.tripped s reached cause).countsAgree hs
  have hengine (c : ChannelNo) : u.refresh.engines[c] = u.engineNow (s.takeTrip reached cause).engines[c] := by
    rw [Fin.getElem_fin, State.engines_refresh, he, Fin.getElem_fin]
  refine ⟨fun k h0 => ?_, fun k r hr hreached => ⟨r.trip cause, ?_, r.isTripped_trip cause⟩, fun k r hr hmissed => ?_,
    fun c v hv hhit => ?_, fun c hmiss => ?_, fun p => ?_, ?_, ?_, fun c => ?_, fun c => ?_⟩
  · rw [hlease, h0, Option.map_none]
  · rw [hlease, hr, Option.map_some, if_pos hreached]
  · rw [hlease, hr, Option.map_some, hmissed, if_neg Bool.false_ne_true]
  · rw [hengine, State.engine_takeTrip_hit hv hhit]
    rfl
  · rw [hengine, State.engine_takeTrip_missed hmiss, State.bare_engineNow]
  · have hpin := u.pin_refresh_kept p.val p.isLt
    rw [hp, State.takeTrip_pins] at hpin
    exact hpin
  · rw [State.refresh_channels, hc, State.takeTrip_channels]
  · rw [State.refresh_timebases, ht, State.timebases_takeTrip]
  · rw [hcarrier, State.carrier_takeTrip, CarrierUnit.divider_recount, CarrierUnit.high_recount]
    exact ⟨rfl, rfl⟩
  · rw [hcarrier, hcounts.2, State.refresh_leases, hl]

/-- A trip records TRIPPED for the leases it reaches (R111, R145). -/
theorem State.noticesRecorded_takeTrip (hl : u.leases = s.leases) (hn : u.sessions = s.sessions)
    (ht : t.sessions = (u.takeTrip reached cause).sessions) :
    s.NoticesRecorded t (trippedKinds s.leases reached) := by
  refine State.noticesRecorded (ht.trans ((u.sessions_takeTrip reached cause).trans ?_))
  simp only [State.recordNotices, hl, hn]
  rfl

/-- A trip that reaches no lease changes nothing. -/
theorem State.takeTrip_of_none (h : ∀ k : LeaseNo, leaseHas s.leases[k] fun r => reached r = false) :
    s.takeTrip reached cause = s := by
  have hmiss (k : LeaseNo) : s.leases[k].any reached = false := by
    have hk := h k
    cases hr : s.leases[k] with
    | none => rfl
    | some r => rwa [hr] at hk
  have hleases : (s.takeTrip reached cause).leases = s.leases := table_ext fun k => by
    have hk := h k
    rw [Fin.getElem_fin, State.leases_takeTrip, ← Fin.getElem_fin]
    cases hr : s.leases[k] with
    | none => rfl
    | some r =>
      rw [hr] at hk
      rw [Option.map_some, if_neg (Bool.eq_false_iff.1 hk)]
  have hengines : (s.takeTrip reached cause).engines = s.engines := table_ext fun c =>
    State.engine_takeTrip_missed fun v _ => hmiss v.place.lease
  have hcarriers (c : Carrier) : (s.takeTrip reached cause).carrier c = s.carrier c := by
    rw [State.carrier_takeTrip, hleases, CarrierUnit.recount_same]
  have hnone (x y : KindSet) : x.union (KindSet.empty.inter y) = x := by
    cases x
    simp [KindSet.union, KindSet.inter, KindSet.empty]
  have hsessions : (s.takeTrip reached cause).sessions = s.sessions := table_ext fun n => by
    rw [State.sessions_takeTrip, Fin.getElem_fin, State.sessions_recordNotices, ← Fin.getElem_fin]
    cases s.sessions[n] with
    | none => rfl
    | some r =>
      rw [Option.map_some, SessionRecord.recorded]
      refine congrArg (fun x => some { r with notices := x }) (table_ext fun k => ?_)
      rw [mapTable_at, reaches, hmiss, if_neg Bool.false_ne_true, hnone, ite_self]
  exact State.ext hleases (by simp) (by simp) hengines (by simp) (hcarriers .ca) (hcarriers .cb) (by simp) (by simp)
    hsessions (by simp) (by simp) (by simp) (by simp) (by simp) (by simp) (by simp)

/-! ## A lapse (R131) -/

/-- Settles O20: the lapse makes the session LAPSED, and its leases take the trip of LAPSE. -/
theorem lapseTripsTheSessionsLeases : Obligations.LapseTripsTheSessionsLeases := by
  unfold Obligations.LapseTripsTheSessionsLeases
  intro s n r x hheld hr hstatus hx hcounts
  have hdue : s.lapseDue n = true := by simp [State.lapseDue, hr, hstatus, hx, -Fin.getElem_fin]
  have hexec : exec (.lapse n) s = .next (s.lapseSession n).refresh := by
    rw [exec, execLapse, State.happen_free _ hheld, if_pos hdue]
  have hlapse := State.lapseSession_opened hr hstatus
  refine ⟨_, hexec, State.tripTaken_of_tables hcounts ?_, State.noticesRecorded_takeTrip (cause := .lapse) rfl rfl ?_,
    ⟨?_, ?_⟩, ?_,
    by simpa using hheld, State.settled_refresh _⟩
  · rw [hlapse]
    exact State.tables_takeTrip (s.tables_setSession n _) _ _
  · rw [State.refresh_sessions, hlapse]
    rfl
  · simp
  · simp
  · exact State.linksKept_of_kept (by simp) (by simp) (by simp) (by simp) (by simp) (by simp)

end Sys2Proof.Machine
end

section
/-! The commands of the Trip Unit (R108, R109, R117, R118, R120, R121): the halts, READ FAULTS and the fault configuration. -/

namespace Sys2Proof.Machine

variable {s : State} {l : Link} {ps : List Byte} {n : SessionNo} {r : SessionRecord}

/-- A served command that changes the Trip Unit alone keeps the tables. -/
theorem State.tables_setTrip_renewed (s : State) (n : SessionNo) (u : TripUnit) :
    ({ s.renewed n with trip := u } : State).tables = s.tables := s.tables_renewed n

/-- A served command that takes a trip as it changes the Trip Unit has taken it, with the notices recorded in the renewed
sessions (R111, R128, R145). -/
theorem State.tripTaken_served {reached : LeaseRecord → Bool} {cause : Source} (hcounts : s.CountsAgree) (n : SessionNo)
    (u : TripUnit) (l : Link) (resp : Response) :
    s.TripTaken ((({ s.renewed n with trip := u } : State).takeTrip reached cause).place l resp).refresh reached cause
      ∧ (s.renewed n).NoticesRecorded
        ((({ s.renewed n with trip := u } : State).takeTrip reached cause).place l resp).refresh
        (trippedKinds s.leases reached) := by
  refine ⟨State.tripTaken_of_tables hcounts ?_, State.noticesRecorded_takeTrip (s := s.renewed n)
    (u := { s.renewed n with trip := u }) (cause := cause) rfl rfl ?_⟩
  · rw [State.tables_place]
    exact State.tables_takeTrip (s.tables_setTrip_renewed n u) _ _
  · rw [State.refresh_sessions, State.place_sessions]

/-! ## Halt (R108, R109) -/

theorem State.countLeases_all (s : State) :
    (s.countLeases fun _ => true) = ((List.finRange 16).filter fun k => s.leases[k].isSome).length := by
  have hany (k : LeaseNo) : (s.leases[k].any fun _ => true) = s.leases[k].isSome := by cases s.leases[k] <;> rfl
  simp only [State.countLeases, hany]

theorem performHaltAll_ok (h : s.Serves .haltAll l ps n r) (hr : r.cls = .supervisor) : performHaltAll (s.renewed n) n ps
    = if s.trip.haltLatch then .ok (s.renewed n, goodResponse [1, 0])
      else .ok (({ s.renewed n with trip := { s.trip with haltLatch := true } }).takeTrip (fun _ => true) .halt,
        goodResponse [0, byte (s.countLeases fun _ => true)]) := by
  simp only [performHaltAll, h.checkSupervisor hr, bind, Except.bind]
  rfl

/-- Settles O35: with the latch set the command only answers, and else it takes the trip of HALT. -/
theorem haltAllTripsEveryLease : Obligations.HaltAllTripsEveryLease := by
  unfold Obligations.HaltAllTripsEveryLease
  intro s l ps n r h hr hcounts hs
  have hperform := performHaltAll_ok h hr
  cases hlatch : s.trip.haltLatch with
  | true =>
    rw [hlatch, if_pos rfl] at hperform
    refine ⟨_, State.happen_served h hperform, ?_, by simp, fun _ => ⟨State.renews_renewed h (by simp), ?_, ?_, ?_⟩,
      fun hclear => by cases hclear⟩
    · rw [State.refresh_trip, State.place_trip, State.renewed_trip, ← hlatch]
    · exact State.leasesKept_of_tables (by simp)
    · exact State.outputsKept_of_tables hs (by simp)
    · exact State.answered_of_kept l _ (by simp) (by simp) (by simp) (by simp) (by simp) (by simp)
  | false =>
    rw [hlatch, if_neg Bool.false_ne_true, State.countLeases_all] at hperform
    refine ⟨_, State.happen_served h hperform, by simp, by simp, (fun hset => by cases hset), fun _ => ?_⟩
    obtain ⟨htrip, hnotices⟩ := State.tripTaken_served hcounts n { s.trip with haltLatch := true } l _
    refine ⟨htrip, hnotices, State.settled_refresh _, ?_⟩
    exact State.answered_of_kept l _ (by simp) (by simp) (by simp) (by simp) (by simp) (by simp)

theorem performReleaseHalt_ok (h : s.Serves .releaseHalt l ps n r) (hr : r.cls = .supervisor) :
    performReleaseHalt (s.renewed n) n ps = .ok ({ s.renewed n with trip := { s.trip with haltLatch := false } },
      goodResponse [flagByte s.trip.haltLatch, byte (s.countLeases fun x => x.causes.halt)]) := by
  simp only [performReleaseHalt, h.checkSupervisor hr, bind, Except.bind]
  rfl

/-- Settles O36: the latch is cleared, and no lease record is touched. -/
theorem releaseHaltClearsTheLatch : Obligations.ReleaseHaltClearsTheLatch := by
  unfold Obligations.ReleaseHaltClearsTheLatch
  intro s l ps n r h hs hr
  refine ⟨_, State.happen_served h (performReleaseHalt_ok h hr), by simp, by simp, ?_, State.renews_renewed h (by simp),
    ?_, ?_⟩
  · exact State.answered_of_kept l _ rfl rfl rfl rfl rfl rfl
  · exact State.leasesKept_of_tables (by rw [State.tables_place, State.tables_setTrip_renewed])
  · exact State.outputsKept_of_tables hs (by rw [State.tables_place, State.tables_setTrip_renewed])

/-! ## READ FAULTS (R117, R118) -/

theorem bitAt_eq_testBit (m k : Nat) : bitAt m k = m.testBit k := by
  rw [bitAt, Nat.testBit_eq_decide_div_mod_eq]

theorem SourceSet.ofClearMask_eq {m : Nat} (h : m < 8) : SourceSet.ofClearMask m
    = some { flt0 := m.testBit 0, flt1 := m.testBit 1, supply := m.testBit 2, halt := false, lapse := false } := by
  simp only [SourceSet.ofClearMask, if_pos h, bitAt_eq_testBit]

theorem performReadFaults_ok {mask : SourceSet} (hmask : SourceSet.ofClearMask (arg ps 1) = some mask) :
    performReadFaults s n ps = .ok ({ s with trip := s.trip.clearLatches mask },
      goodResponse [s.trip.latches.toByte, s.trip.assertedSources.toByte, (s.trip.clearLatches mask).latches.toByte,
        s.trip.edgeByte, byte s.trip.threshold.val]) := by
  simp only [performReadFaults, hmask, need_some, bind, Except.bind]

/-- Settles O34: the mask is read bit by bit, and the unit is reported before and after. -/
theorem readFaultsClearsIdleLatches : Obligations.ReadFaultsClearsIdleLatches := by
  unfold Obligations.ReadFaultsClearsIdleLatches
  intro s l ps n r h hs hmask
  have hperform := performReadFaults_ok (s := s.renewed n) (n := n) (SourceSet.ofClearMask_eq hmask)
  refine ⟨_, State.happen_served h hperform, ?_, ?_, ?_, ?_, ?_, ?_, by simp, ?_, State.renews_renewed h (by simp), ?_, ?_⟩
  iterate 6
    · rw [State.refresh_trip, State.place_trip]
      rfl
  · rw [State.refresh_trip, State.place_trip]
    exact State.answered_of_kept l _ rfl rfl rfl rfl rfl rfl
  · exact State.leasesKept_of_tables (by rw [State.tables_place, State.tables_setTrip_renewed])
  · exact State.outputsKept_of_tables hs (by rw [State.tables_place, State.tables_setTrip_renewed])

/-! ## SET FAULT EDGE (R120) -/

theorem State.setInput_self (s : State) (i : FaultLine) : s.setInput i (s.trip.input i) = s := by cases i <;> rfl

theorem State.setInput_setInput (s : State) (i : FaultLine) (x y : FaultInput) :
    (s.setInput i x).setInput i y = s.setInput i y := by cases i <;> rfl

/-- The latch of an input that no lease subscribes to, set: the trip reaches no lease (R110). -/
theorem State.setInputLatch_of_unsubscribed {i : FaultLine}
    (hfree : ∀ k : LeaseNo, leaseHas s.leases[k] fun x => x.subscription.has i = false) :
    s.setInputLatch i = s.setInput i { s.trip.input i with latch := true } := by
  rcases s.setInputLatch_cases i with ⟨hset, heq⟩ | ⟨-, heq⟩ <;> rw [heq]
  · rw [← hset]
    exact (s.setInput_self i).symm
  · refine State.takeTrip_of_none ?_
    rw [State.setInput_leases]
    exact hfree

/-- The edge of an input that no lease subscribes to, selected: an input found asserted has its latch set (R120). -/
theorem State.selectEdge_of_unsubscribed {i : FaultLine} {e : Edge} {x : FaultInput} (hx : (s.trip.input i).select e = x)
    (hfree : ∀ k : LeaseNo, leaseHas s.leases[k] fun x => x.subscription.has i = false) :
    s.selectEdge i e = s.setInput i { x with latch := x.asserted || x.latch } := by
  simp only [State.selectEdge, hx]
  by_cases hfound : x.asserted = true
  · have hset : (x.asserted || x.latch) = true := by rw [hfound, Bool.true_or]
    rw [if_pos hfound, hset, State.setInputLatch_of_unsubscribed (by rwa [State.setInput_leases]), State.input_setInput,
      State.setInput_setInput]
  · have hkept : (x.asserted || x.latch) = x.latch := by simp [hfound]
    rw [if_neg hfound, hkept]

theorem performSetFaultEdge_ok {i : FaultLine} {e : Edge} (h : s.Serves .setFaultEdge l ps n r) (hmay : s.MayConfigure r)
    (hi : arg ps 1 = match i with | .flt0 => 0 | .flt1 => 1) (he : arg ps 2 = match e with | .falling => 0 | .rising => 1)
    (hfree : ∀ k : LeaseNo, leaseHas s.leases[k] fun x => x.subscription.has i = false) :
    performSetFaultEdge (s.renewed n) n ps = .ok ((s.renewed n).selectEdge i e,
      goodResponse [byte (arg ps 1), byte (arg ps 2), flagByte (((s.renewed n).selectEdge i e).trip.input i).asserted,
        flagByte (((s.renewed n).selectEdge i e).trip.input i).latch]) := by
  have hline : faultLineOfCode (arg ps 1) = some i := by rw [hi]; cases i <;> rfl
  have hedge : Edge.ofCode (arg ps 2) = some e := by rw [he]; cases e <;> rfl
  have hcode : e.code = byte (arg ps 2) := by rw [he]; cases e <;> rfl
  have hnone : (s.renewed n).countLeases (subscribedTo i) = 0 := by
    rw [State.countLeases, List.length_eq_zero_iff, List.filter_eq_nil_iff]
    intro k _
    have hk := hfree k
    rw [State.renewed_leases]
    cases hx : s.leases[k] with
    | none => simp
    | some x =>
      have hsub : x.subscription.has i = false := by rwa [hx] at hk
      simp [subscribedTo, hsub]
  simp only [performSetFaultEdge, h.checkConfigure rfl hmay, hline, hedge, need_some, hnone, beq_self_eq_true, check_ok, hcode,
    bind, Except.bind]

/-- Settles O37: the command passes its checks on the renewed tables and writes the one input. -/
theorem setFaultEdgeTakesTheConditionAfresh : Obligations.SetFaultEdgeTakesTheConditionAfresh := by
  unfold Obligations.SetFaultEdgeTakesTheConditionAfresh
  intro s l ps n r i e found h hs hmay hi he hfree hfound
  have hselect : (s.trip.input i).select e = { s.trip.input i with edge := e, asserted := found } := by
    rw [hfound]
    cases e <;> rfl
  have hperform := performSetFaultEdge_ok h hmay hi he hfree
  rw [State.selectEdge_of_unsubscribed (s := s.renewed n) hselect hfree, State.input_setInput] at hperform
  refine ⟨_, State.happen_served h hperform, ?_, fun j hj => ?_, ?_, ?_, ?_, ?_, by simp, ?_, State.renews_renewed h (by simp),
    ?_, ?_⟩
  · rw [State.refresh_trip, State.place_trip, State.input_setInput]
  · rw [State.refresh_trip, State.place_trip, State.input_setInput_other _ _ hj, State.renewed_trip]
  iterate 4
    · rw [State.refresh_trip, State.place_trip]
      cases i <;> rfl
  · exact State.answered_of_kept l _ (by simp) (by simp) (by simp) (by simp) (by simp) (by simp)
  · exact State.leasesKept_of_tables (by simp)
  · exact State.outputsKept_of_tables hs (by simp)

/-! ## SET SUPPLY LEVEL (R106, R121) -/

/-- The condition after the supply is compared with the levels of a threshold code (R106). -/
def State.lowUnder (s : State) (code : Fin 8) : Bool :=
  if s.supplyMv < Config.thresholdMv code then true
  else if Config.thresholdMv code + Config.hysteresisMv ≤ s.supplyMv then false else s.trip.supplyLow

/-- The supply compared again: below the threshold with the latch clear, the latch is set with the trip of SUPPLY; and else
the condition alone is written (R106, R121). -/
theorem State.compareSupply_cases (s : State) :
    (s.supplyMv < Config.thresholdMv s.trip.threshold ∧ s.trip.supplyLatch = false ∧ s.compareSupply
        = ({ s with trip := { s.trip with supplyLow := true, supplyLatch := true } }).takeTrip (fun _ => true) .supply)
      ∨ (s.supplyMv < Config.thresholdMv s.trip.threshold → s.trip.supplyLatch = true) ∧ s.compareSupply
        = { s with trip := { s.trip with supplyLow := s.lowUnder s.trip.threshold } } := by
  unfold State.compareSupply State.lowUnder
  by_cases hlow : s.supplyMv < Config.thresholdMv s.trip.threshold
  · simp only [if_pos hlow]
    rcases State.setSupplyLatch_cases ({ s with trip := { s.trip with supplyLow := true } }) with ⟨hset, heq⟩ | ⟨hclear, heq⟩
    · exact .inr ⟨fun _ => hset, heq⟩
    · exact .inl ⟨hlow, hclear, heq⟩
  · simp only [if_neg hlow]
    refine .inr ⟨fun hyes => absurd hyes hlow, ?_⟩
    split <;> rfl

/-- A served command's new threshold code, with which the supply is compared (R121). -/
theorem State.compareSupply_renewed (s : State) (n : SessionNo) (code : Fin 8) :
    (s.supplyMv < Config.thresholdMv code ∧ s.trip.supplyLatch = false
        ∧ ({ s.renewed n with trip := { s.trip with threshold := code } } : State).compareSupply
          = ({ s.renewed n with trip := { s.trip with threshold := code, supplyLow := true, supplyLatch := true } } :
              State).takeTrip (fun _ => true) .supply)
      ∨ (s.supplyMv < Config.thresholdMv code → s.trip.supplyLatch = true)
        ∧ ({ s.renewed n with trip := { s.trip with threshold := code } } : State).compareSupply
          = { s.renewed n with trip := { s.trip with threshold := code, supplyLow := s.lowUnder code } } :=
  State.compareSupply_cases { s.renewed n with trip := { s.trip with threshold := code } }

theorem performSetSupplyLevel_ok {code : Fin 8} {u : State} (h : s.Serves .setSupplyLevel l ps n r) (hmay : s.MayConfigure r)
    (hcode : arg ps 1 = code.val)
    (hu : ({ s.renewed n with trip := { s.trip with threshold := code } } : State).compareSupply = u) :
    performSetSupplyLevel (s.renewed n) n ps
      = .ok (u, goodResponse [byte code.val, flagByte u.trip.supplyLow, flagByte u.trip.supplyLatch]) := by
  subst hu
  simp only [performSetSupplyLevel, h.checkConfigure rfl hmay, need_indexOf hcode, bind, Except.bind]
  rfl

/-- Settles O38: the command passes its checks on the renewed tables, writes the code and compares the supply. -/
theorem setSupplyLevelComparesAgain : Obligations.SetSupplyLevelComparesAgain := by
  unfold Obligations.SetSupplyLevelComparesAgain
  intro s l ps n r code low latch h hcounts hs hmay hcode hlow hlatch
  rcases s.compareSupply_renewed n code with ⟨hbelow, hclear, hcompare⟩ | ⟨hset, hcompare⟩
  · obtain rfl : low = true := hlow.trans (if_pos hbelow)
    obtain rfl : latch = true := by rw [hlatch, decide_eq_true hbelow, Bool.true_or]
    obtain ⟨htrip, hnotices⟩ := State.tripTaken_served (reached := fun _ => true) (cause := .supply) hcounts n
      { s.trip with threshold := code, supplyLow := true, supplyLatch := true } l
      (goodResponse [byte code.val, flagByte true, flagByte true])
    have hperform := performSetSupplyLevel_ok h hmay hcode hcompare
    rw [State.takeTrip_trip] at hperform
    refine ⟨_, State.happen_served h hperform, by simp, by simp, ?_, fun hsame => ?_,
      fun _ => ⟨htrip, hnotices, State.settled_refresh _⟩⟩
    · exact State.answered_of_kept l _ (by simp) (by simp) (by simp) (by simp) (by simp) (by simp)
    · rw [hclear] at hsame
      cases hsame
  · obtain rfl : latch = s.trip.supplyLatch := by
      rw [hlatch]
      by_cases hbelow : s.supplyMv < Config.thresholdMv code
      · rw [decide_eq_true hbelow, Bool.true_or]
        exact (hset hbelow).symm
      · rw [decide_eq_false hbelow, Bool.false_or]
    have hperform := performSetSupplyLevel_ok h hmay hcode hcompare
    refine ⟨_, State.happen_served h hperform, ?_, by simp, ?_, fun _ => ⟨State.renews_renewed h (by simp), ?_, ?_⟩,
      fun hdiffers => absurd rfl hdiffers⟩
    · rw [State.refresh_trip, State.place_trip, hlow]
      rfl
    · rw [hlow]
      exact State.answered_of_kept l _ rfl rfl rfl rfl rfl rfl
    · exact State.leasesKept_of_tables (by rw [State.tables_place]; exact s.tables_setTrip_renewed n _)
    · exact State.outputsKept_of_tables hs (by rw [State.tables_place]; exact s.tables_setTrip_renewed n _)

end Sys2Proof.Machine
end

section
/-! The happenings of the Trip Unit and the supply (R104 to R107, R122): the filters, the supply's levels, and the seeding of
the latches at a reset's release. -/

namespace Sys2Proof.Machine

variable {s : State}

/-! ## The fault inputs (R104, R105) -/

/-- One input written leaves the rest of the Trip Unit. -/
theorem State.setInput_rest (s : State) (i : FaultLine) (x : FaultInput) :
    (∀ j, j ≠ i → (s.setInput i x).trip.input j = s.trip.input j)
      ∧ (s.setInput i x).trip.threshold = s.trip.threshold ∧ (s.setInput i x).trip.supplyLow = s.trip.supplyLow
      ∧ (s.setInput i x).trip.supplyLatch = s.trip.supplyLatch
      ∧ (s.setInput i x).trip.haltLatch = s.trip.haltLatch :=
  ⟨fun _ hj => State.input_setInput_other _ x hj, by cases i <;> exact ⟨rfl, rfl, rfl, rfl⟩⟩

/-- Settles O39: the filter starts, and one input's level moves. -/
theorem faultInputChangeMovesTheInputAlone : Obligations.FaultInputChangeMovesTheInputAlone := by
  unfold Obligations.FaultInputChangeMovesTheInputAlone
  intro s i level
  obtain ⟨hother, hthreshold, hlow, hlatch, hhalt⟩ := s.setInput_rest i { s.trip.input i with level := level }
  refine ⟨_, rfl, State.input_setInput .., hother, hthreshold, hlow, hlatch, hhalt, ?_⟩
  exact ⟨by simp, ⟨by simp, by simp, by simp, by simp, by simp⟩, ⟨by simp, by simp⟩, by simp, by simp, by simp, by simp,
    by simp, by simp, by simp, by simp⟩

/-- An input taken at a new seen level, its latch set where it was asserted: where the latch was set already the input alone
is written, and else the trip of its source is taken (R105, R110). -/
theorem State.setInputLatch_setInput (s : State) (i : FaultLine) (x : FaultInput) :
    (x.latch = true ∧ (s.setInput i x).setInputLatch i = s.setInput i { x with latch := true })
      ∨ (x.latch = false ∧ (s.setInput i x).setInputLatch i
          = (s.setInput i { x with latch := true }).takeTrip (subscribedTo i) (lineSource i)) := by
  rcases (s.setInput i x).setInputLatch_cases i with ⟨hlatch, heq⟩ | ⟨hlatch, heq⟩ <;>
    rw [State.input_setInput] at hlatch <;> rw [heq]
  · exact .inl ⟨hlatch, by rw [← hlatch]⟩
  · exact .inr ⟨hlatch, by rw [State.input_setInput, State.setInput_setInput]⟩

/-- Settles O40: the edge and the release write the one input, and an edge with the latch clear takes the trip. -/
theorem faultEdgeAndRelease : Obligations.FaultEdgeAndRelease := by
  unfold Obligations.FaultEdgeAndRelease
  intro s i x hheld hcounts hs hx hmoved
  refine ⟨fun hedge => ?_, fun haway => ?_⟩
  · have hexec : exec (.faultEdge i) s
        = .next ((s.setInput i { x with seen := x.level, asserted := true }).setInputLatch i).refresh := by
      simp only [exec, execFaultEdge, State.happen_free _ hheld, hx]
      rw [if_pos ⟨hmoved, hedge.trans (by cases x.edge <;> rfl)⟩]
    obtain ⟨hother, hthreshold, hlow, hsupply, hhalt⟩ :=
      s.setInput_rest i { x with seen := x.level, asserted := true, latch := true }
    rcases s.setInputLatch_setInput i { x with seen := x.level, asserted := true } with ⟨hset, heq⟩ | ⟨hclear, heq⟩ <;>
      rw [heq] at hexec
    · refine ⟨_, hexec, ?_, ?_, ?_, ?_, ?_, ?_, ?_, ?_, ?_, fun _ => ⟨by simp, ?_, ?_⟩, fun hclear => ?_⟩
      · rw [State.refresh_trip, State.input_setInput]
      iterate 5
        · rwa [State.refresh_trip]
      · simp
      · exact State.linksKept_of_kept (by simp) (by simp) (by simp) (by simp) (by simp) (by simp)
      · simpa using hheld
      · exact State.leasesKept_of_tables (by simp)
      · exact State.outputsKept_of_tables hs (by simp)
      · exact absurd (hset.symm.trans hclear) (by decide)
    · refine ⟨_, hexec, ?_, ?_, ?_, ?_, ?_, ?_, ?_, ?_, ?_, fun hset => ?_,
        fun _ => ⟨State.tripTaken_of_tables hcounts ?_, State.noticesRecorded_takeTrip (by simp) (by simp)
          (State.refresh_sessions _), State.settled_refresh _⟩⟩
      · rw [State.refresh_trip, State.takeTrip_trip, State.input_setInput]
      iterate 5
        · rwa [State.refresh_trip, State.takeTrip_trip]
      · simp
      · exact State.linksKept_of_kept (by simp) (by simp) (by simp) (by simp) (by simp) (by simp)
      · simpa using hheld
      · exact absurd (hset.symm.trans hclear) (by decide)
      · exact State.tables_takeTrip (s.tables_setInput i _) _ _
  · have hexec : exec (.faultRelease i) s = .next (s.setInput i { x with seen := x.level, asserted := false }).refresh := by
      simp only [exec, execFaultRelease, State.happen_free _ hheld, hx]
      rw [if_pos ⟨hmoved, fun hedge => haway (hedge.trans (by cases x.edge <;> rfl))⟩]
    obtain ⟨hother, hthreshold, hlow, hsupply, hhalt⟩ := s.setInput_rest i { x with seen := x.level, asserted := false }
    refine ⟨_, hexec, ?_, ?_, ?_, ?_, ?_, ?_, ?_, ?_, ?_, by simp, ?_, ?_⟩
    · rw [State.refresh_trip, State.input_setInput]
    iterate 5
      · rwa [State.refresh_trip]
    · simp
    · exact State.linksKept_of_kept (by simp) (by simp) (by simp) (by simp) (by simp) (by simp)
    · simpa using hheld
    · exact State.leasesKept_of_tables (by simp)
    · exact State.outputsKept_of_tables hs (by simp)

/-! ## The supply (R106, R107) -/

/-- A new level of the supply, with what it makes of the Trip Unit. -/
def State.withSupply (s : State) (mv : Nat) (u : TripUnit) : State := { s with supplyMv := mv, trip := u }

theorem State.tables_withSupply (s : State) (mv : Nat) (u : TripUnit) : (s.withSupply mv u).tables = s.tables := rfl

/-- The supply fallen to a level at or above the power-on level: the trip of SUPPLY where it is below the threshold with
the condition no and the latch clear, and else the Trip Unit alone written (R107). -/
theorem State.supplyFell_cases (s : State) (mv : Nat) :
    (mv < Config.thresholdMv s.trip.threshold ∧ s.trip.supplyLow = false ∧ s.trip.supplyLatch = false
      ∧ ({ s with supplyMv := mv } : State).supplyFell
        = (s.withSupply mv { s.trip with supplyLow := true, supplyLatch := true }).takeTrip (fun _ => true) .supply)
    ∨ ((mv < Config.thresholdMv s.trip.threshold → s.trip.supplyLow = false → s.trip.supplyLatch = true)
      ∧ ({ s with supplyMv := mv } : State).supplyFell = s.withSupply mv
        { s.trip with supplyLow := decide (mv < Config.thresholdMv s.trip.threshold) || s.trip.supplyLow }) := by
  unfold State.supplyFell State.withSupply
  by_cases hfell : mv < Config.thresholdMv s.trip.threshold ∧ s.trip.supplyLow = false
  · obtain ⟨hbelow, hno⟩ := hfell
    simp only [if_pos (And.intro hbelow hno), decide_eq_true hbelow, Bool.true_or]
    rcases State.setSupplyLatch_cases { s with supplyMv := mv, trip := { s.trip with supplyLow := true } }
      with ⟨hset, heq⟩ | ⟨hclear, heq⟩ 
    · exact .inr ⟨fun _ _ => hset, heq⟩
    · exact .inl ⟨hbelow, hno, hclear, heq⟩
  · simp only [if_neg hfell]
    refine .inr ⟨fun hbelow hno => absurd ⟨hbelow, hno⟩ hfell, ?_⟩
    have hkept : (decide (mv < Config.thresholdMv s.trip.threshold) || s.trip.supplyLow) = s.trip.supplyLow := by
      cases hlow : s.trip.supplyLow with
      | true => exact Bool.or_true _
      | false => rw [Bool.or_false, decide_eq_false fun hbelow => hfell ⟨hbelow, hlow⟩]
    rw [hkept]

theorem State.supplyRose_eq (s : State) (mv : Nat) :
    ({ s with supplyMv := mv } : State).supplyRose = s.withSupply mv { s.trip with
      supplyLow := !decide (Config.thresholdMv s.trip.threshold + 100 ≤ mv) && s.trip.supplyLow } := by
  unfold State.supplyRose State.withSupply Config.hysteresisMv
  by_cases hrose : Config.thresholdMv s.trip.threshold + 100 ≤ mv
  · simp only [if_pos hrose, decide_eq_true hrose, Bool.not_true, Bool.false_and]
  · simp only [if_neg hrose, decide_eq_false hrose, Bool.not_false, Bool.true_and]

/-- A new level of the supply that takes no trip keeps the links, the sessions and the tables. -/
theorem State.withSupply_keeps (hs : s.Settled) (mv : Nat) (u : TripUnit) :
    s.LinksKept (s.withSupply mv u).refresh ∧ (s.withSupply mv u).refresh.sessions = s.sessions
      ∧ s.LeasesKept (s.withSupply mv u).refresh ∧ s.OutputsKept (s.withSupply mv u).refresh :=
  ⟨State.linksKept_of_kept rfl rfl rfl rfl rfl rfl, State.refresh_sessions _,
    State.leasesKept_of_tables (s.tables_withSupply mv u), State.outputsKept_of_tables hs (s.tables_withSupply mv u)⟩

/-- Settles O41: below the power-on level both are the full reset, and above it the condition and the latch are compared. -/
theorem supplyCrossesItsLevels : Obligations.SupplyCrossesItsLevels := by
  unfold Obligations.SupplyCrossesItsLevels
  rintro s mv _ hheld hcounts hs rfl
  have hfree : ¬ s.resetHeld = true := by rw [hheld]; exact Bool.false_ne_true
  refine ⟨fun hfall hoff => ?_, fun hfall hon => ?_, fun hrise => ?_⟩
  · have hreset : mv < Config.powerOnMv := hoff
    simp only [exec, execSupplyFall, execFullReset, if_pos hfall, if_pos hreset]
  · have hstays : ¬ mv < Config.powerOnMv := Nat.not_lt.2 hon
    have hexec : exec (.supplyFall mv) s = .next ({ s with supplyMv := mv } : State).supplyFell.refresh := by
      simp only [exec, execSupplyFall, if_pos hfall, if_neg hstays, if_neg hfree]
    rcases s.supplyFell_cases mv with ⟨hbelow, hno, hclear, heq⟩ | ⟨hset, heq⟩ <;> rw [heq] at hexec
    · refine ⟨_, hexec, ?_, ?_, ?_, ?_, fun hnone => ?_, fun _ _ _ => ⟨State.tripTaken_of_tables hcounts ?_,
        State.noticesRecorded_takeTrip (cause := .supply) rfl rfl (State.refresh_sessions _), State.settled_refresh _⟩⟩
      · rw [State.refresh_supplyMv, State.takeTrip_supplyMv]
        rfl
      · exact State.linksKept_of_kept (by simp [State.withSupply]) (by simp [State.withSupply]) (by simp [State.withSupply])
          (by simp [State.withSupply]) (by simp [State.withSupply]) (by simp [State.withSupply])
      · simpa [State.withSupply] using hheld
      · rw [State.refresh_trip, State.takeTrip_trip, decide_eq_true hbelow, hno, hclear]
        rfl
      · rcases hnone with habove | hyes | hset
        · exact absurd hbelow (Nat.not_lt.2 habove)
        · exact absurd (hyes.symm.trans hno) (by decide)
        · exact absurd (hset.symm.trans hclear) (by decide)
      · exact State.tables_takeTrip (s.tables_withSupply mv _) _ _
    · obtain ⟨hlinks, hsessions, hleases, houtputs⟩ := State.withSupply_keeps hs mv
        { s.trip with supplyLow := decide (mv < Config.thresholdMv s.trip.threshold) || s.trip.supplyLow }
      refine ⟨_, hexec, ?_, hlinks, ?_, ?_, fun _ => ⟨hsessions, hleases, houtputs⟩, fun hbelow hno hclear => ?_⟩
      · rw [State.refresh_supplyMv]
        rfl
      · rwa [State.refresh_resetHeld]
      · have hlatch : ((decide (mv < Config.thresholdMv s.trip.threshold) && !s.trip.supplyLow) || s.trip.supplyLatch)
            = s.trip.supplyLatch := by
          by_cases hdue : mv < Config.thresholdMv s.trip.threshold ∧ s.trip.supplyLow = false
          · rw [hset hdue.1 hdue.2, Bool.or_true]
          · have hnot : (decide (mv < Config.thresholdMv s.trip.threshold) && !s.trip.supplyLow) = false := by
              simpa using hdue
            rw [hnot, Bool.false_or]
        rw [State.refresh_trip, hlatch]
        rfl
      · exact absurd ((hset hbelow hno).symm.trans hclear) (by decide)
  · have hexec : exec (.supplyRise mv) s = .next ({ s with supplyMv := mv } : State).supplyRose.refresh := by
      simp only [exec, execSupplyRise, if_pos hrise, if_neg hfree]
    rw [s.supplyRose_eq mv] at hexec
    obtain ⟨hlinks, hsessions, hleases, houtputs⟩ := State.withSupply_keeps hs mv { s.trip with
      supplyLow := !decide (Config.thresholdMv s.trip.threshold + 100 ≤ mv) && s.trip.supplyLow }
    refine ⟨_, hexec, ?_, hlinks, ?_, ?_, hsessions, hleases, houtputs⟩
    · rw [State.refresh_supplyMv]
      rfl
    · rwa [State.refresh_resetHeld]
    · rw [State.refresh_trip]
      rfl

/-! ## The release of a full reset (R122) -/

/-- A reset's release, RSTn high. -/
def State.releasedHigh (s : State) : State := ({ s with rstn := .high } : State).releaseReset

/-- Settles O4: the release writes RSTn and the two inputs and ends the hold. -/
theorem resetReleaseSeedsTheLatches : Obligations.ResetReleaseSeedsTheLatches := by
  unfold Obligations.ResetReleaseSeedsTheLatches
  refine ⟨fun s hheld hs => ⟨fun hon => ?_, fun hoff => ?_⟩, fun s hfree => ?_⟩
  · have hsupply : Config.powerOnMv < s.supplyMv := hon
    have hexec : exec .resetRelease s = .next s.releasedHigh.refresh := by
      simp only [exec, execResetRelease, if_pos hheld, if_pos hsupply]
      rfl
    have htables : s.releasedHigh.tables = s.tables := rfl
    have hport (l : Link) : s.PortKept s.releasedHigh.refresh l := by
      obtain ⟨hslot, hrefused, htransaction, hout⟩ := s.releasedHigh.link_refresh_kept l
      constructor
      · rw [hslot]; cases l <;> rfl
      · rw [hrefused]; cases l <;> rfl
      · rw [htransaction]; cases l <;> rfl
      · rw [hout]; cases l <;> rfl
    refine ⟨_, hexec, by rw [State.refresh_resetHeld]; rfl, by rw [State.refresh_rstn]; rfl, fun i => ?_, ?_⟩
    · rw [State.refresh_trip]
      cases i <;> rfl
    · rw [State.refresh_trip]
      exact ⟨rfl, rfl, rfl, rfl, State.leasesKept_of_tables htables, State.outputsKept_of_tables hs htables,
        State.refresh_sessions _, State.refresh_supplyMv _, fun l => ⟨hport l, State.attention_refresh ..⟩,
        State.refresh_lastServed _, State.refresh_freeCount _, State.refresh_pending _⟩
  · have hsupply : ¬ Config.powerOnMv < s.supplyMv := Nat.not_lt.2 hoff
    simp only [exec, execResetRelease, if_pos hheld, if_neg hsupply]
  · simp only [exec, execResetRelease, hfree, Bool.false_eq_true, if_false]

end Sys2Proof.Machine
end

section
/-! CLEAR TRIP (R113 to R115): the causes whose latch is clear go, and the lease stays TRIPPED, goes ARMED or is torn down. -/

namespace Sys2Proof.Machine

variable {s t : State} {l : Link} {ps : List Byte} {n : SessionNo} {r : SessionRecord} {k : LeaseNo} {x : LeaseRecord}

/-! ## A lease that goes on showing its safe levels -/

/-- A lease record rewritten in its phase alone, both phases with the pins at their safe levels and nothing staged: the
tables that follow from the leases are as they were, and so are the outputs (R48, R95, R100). -/
structure LeaseRecord.StaysSafe (x y : LeaseRecord) : Prop where
  rest : y = { x with phase := y.phase }
  before : x.phase.showsSafe = true
  after : y.phase.showsSafe = true

theorem LeaseRecord.stagedAt_of_showsSafe (h : x.phase.showsSafe = true) (i : Nat) : x.stagedAt i = none := by
  unfold LeaseRecord.stagedAt
  cases hp : x.phase with
  | amendPending staged =>
    rw [hp] at h
    cases h
  | _ => rfl

namespace LeaseRecord.StaysSafe

variable {y : LeaseRecord}

theorem wiring (h : x.StaysSafe y) : leaseWiring (some y) = leaseWiring (some x) := by
  rw [h.rest]
  rfl

theorem shown (h : x.StaysSafe y) : leaseShown (some y) = leaseShown (some x) := by
  have hbindings : y.bindings = x.bindings := by rw [h.rest]
  simp only [leaseShown, Option.map_some, hbindings, h.before, h.after]

theorem uses (h : x.StaysSafe y) (c : Carrier) : y.uses c = x.uses c := by
  have hbindings : y.bindings = x.bindings := by rw [h.rest]
  simp only [LeaseRecord.uses, hbindings, LeaseRecord.stagedAt_of_showsSafe h.before,
    LeaseRecord.stagedAt_of_showsSafe h.after]

theorem carrier (h : x.StaysSafe y) (hx : s.leases[k] = some x) (c : Carrier) :
    (s.putLease k (some y)).carrier c = s.carrier c := by
  have huses : carrierUses (putAt s.leases k (some y)) c = carrierUses s.leases c := carrierUses_congr fun j => by
    rw [Fin.getElem_fin, getElem_putAt]
    split
    · rename_i hj
      obtain rfl := Fin.ext hj
      rw [hx]
      exact h.uses c
    · rfl
  rw [State.putLease, State.carrier_setLeases, huses, CarrierUnit.recount_same]

/-- The counts, the carriers and the outputs are as before. -/
theorem kept (h : x.StaysSafe y) (hs : s.Settled) (hx : s.leases[k] = some x)
    (hleases : t.leases = (s.putLease k (some y)).leases) (htimebases : t.timebases = (s.putLease k (some y)).timebases)
    (hA : t.carrierA = (s.putLease k (some y)).carrierA) (hB : t.carrierB = (s.putLease k (some y)).carrierB)
    (hengines : t.engines = s.engines) (hpins : t.pins = s.pins) :
    t.timebases = s.timebases ∧ t.carrierA = s.carrierA ∧ t.carrierB = s.carrierB ∧ s.OutputsKept t.refresh := by
  have hwires := State.sameWiring_putLease (s := s) hx h.wiring
  have htb : t.timebases = s.timebases := htimebases.trans (State.timebases_putLease hx h.wiring)
  have hcA : t.carrierA = s.carrierA := hA.trans (h.carrier hx .ca)
  have hcB : t.carrierB = s.carrierB := hB.trans (h.carrier hx .cb)
  have hcarrier (c : Carrier) : t.carrier c = s.carrier c := by cases c <;> simp [State.carrier, hcA, hcB]
  have hcounter (j : LeaseNo) : t.counterOf j = s.counterOf j :=
    State.counterOf_of_wiring (by rw [hleases]; exact hwires.leases j) htb
  have hnow (e : Engine) : t.engineNow e = s.engineNow e := by
    cases e <;> simp only [State.engineNow, State.engineOutput, hcounter, hcarrier]
  have hshown (j : LeaseNo) : leaseShown t.leases[j] = leaseShown s.leases[j] := by
    rw [hleases, Fin.getElem_fin, State.leases_putLease]
    split
    · rename_i hj
      obtain rfl := Fin.ext hj
      rw [hx]
      exact h.shown
    · rfl
  refine ⟨htb, hcA, hcB, table_ext fun c => ?_, State.pins_refresh_of_shown hs hpins hshown fun c => ?_⟩
  · rw [Fin.getElem_fin, State.engines_refresh, hnow, hengines]
    exact State.engineNow_settled hs c
  · rw [hnow, hengines]

end LeaseRecord.StaysSafe

/-! ## The command -/

/-- The answer to a CLEAR TRIP: the lease's state as it is left, and the causes removed and remaining (R113, R171). -/
def clearTripAnswer (k : LeaseNo) (l : Lease) (remaining removed : SourceSet) : Response :=
  { status := if remaining ≠ SourceSet.empty then .faultActive else .good
    detail := if remaining ≠ SourceSet.empty then remaining.toByte else 0
    data := [byte k.val, leaseCode l, removed.toByte, remaining.toByte] }

theorem clearTripAnswer_left {remaining : SourceSet} (h : remaining ≠ SourceSet.empty) (l : Lease) (removed : SourceSet) :
    clearTripAnswer k l remaining removed
      = ⟨.faultActive, remaining.toByte, [byte k.val, leaseCode l, removed.toByte, remaining.toByte]⟩ := by
  rw [clearTripAnswer, if_pos h, if_pos h]

theorem clearTripAnswer_none (l : Lease) (removed : SourceSet) : clearTripAnswer k l SourceSet.empty removed
    = goodResponse [byte k.val, leaseCode l, removed.toByte, 0] := rfl

/-- A CLEAR TRIP of a TRIPPED lease, by its holder or the supervisor, is performed (R12, R13, R113). -/
theorem performClearTrip_ok {causes : SourceSet} {retiring : Bool} (h : s.Serves .clearTrip l ps n r) (hk : arg ps 1 = k.val)
    (hx : s.leases[k] = some x) (hauth : x.holder = n ∨ r.cls = .supervisor) (hphase : x.phase = .tripped causes retiring) :
    performClearTrip (s.renewed n) n ps = .ok ((s.renewed n).clearLease k x,
      clearTripAnswer k ((s.renewed n).clearLease k x).leases[k] (causes.inter s.trip.latches)
        (causes.diff s.trip.latches)) := by
  have hholder : (s.renewed n).checkHolder n k true = .ok () := by
    refine State.checkHolder_ok (hauth.imp (fun hn => heldBy_iff.2 ⟨x, hx, hn⟩) fun hc => ⟨rfl, ?_⟩)
    rw [State.isSupervisor_renewed h.record]
    exact (State.isSupervisor_iff h.record).2 hc
  have hx' : (s.renewed n).leases[k] = some x := hx
  have htripped : x.phase.isTripped = true := by rw [hphase]; rfl
  have hcauses : x.causes = causes := by rw [LeaseRecord.causes, hphase]
  simp only [performClearTrip, readLease_ok hk, hholder, checkPhase_ok hx' htripped, hcauses, bind, Except.bind]
  rfl

/-- What CLEAR TRIP makes of the lease, by the causes that remain (R113 to R115). -/
theorem State.clearLease_cases {causes : SourceSet} {retiring : Bool} (hphase : x.phase = .tripped causes retiring) :
    (causes.inter s.trip.latches ≠ SourceSet.empty →
      s.clearLease k x = s.putLease k (some { x with phase := .tripped (causes.inter s.trip.latches) retiring }))
    ∧ (causes.inter s.trip.latches = SourceSet.empty → retiring = false →
      s.clearLease k x = s.putLease k (some { x with phase := .armed }))
    ∧ (causes.inter s.trip.latches = SourceSet.empty → retiring = true → s.clearLease k x = s.teardown k) := by
  have hcauses : x.causes = causes := by rw [LeaseRecord.causes, hphase]
  have hretiring : x.retirePending = retiring := by rw [LeaseRecord.retirePending, hphase]
  simp only [State.clearLease, hcauses, hretiring]
  refine ⟨fun hleft => if_pos hleft, fun hnone hstays => ?_, fun hnone hgoes => ?_⟩
  · rw [if_neg (not_not.2 hnone), hstays, if_neg Bool.false_ne_true]
  · rw [if_neg (not_not.2 hnone), hgoes, if_pos rfl]

theorem State.clearLease_keeps (s : State) (k : LeaseNo) (x : LeaseRecord) : (s.clearLease k x).sessions = s.sessions
    ∧ (s.clearLease k x).trip = s.trip ∧ (s.clearLease k x).supplyMv = s.supplyMv := by
  unfold State.clearLease
  split
  · exact ⟨State.putLease_sessions .., State.putLease_trip .., State.putLease_supplyMv ..⟩
  · split <;> simp [State.teardown]

theorem State.lease_putLease (s : State) (k : LeaseNo) (l : Lease) : (s.putLease k l).leases[k] = l := by simp

theorem State.lease_teardown (s : State) (k : LeaseNo) : (s.teardown k).leases[k] = none := by
  rw [State.teardown, Fin.getElem_fin, State.leases_freeLeases]
  simp

/-- The record of a lease that CLEAR TRIP leaves, in the tables of the command's end. -/
theorem State.cleared_kept {y : LeaseRecord} (h : x.StaysSafe y) (hs : s.Settled) (hx : s.leases[k] = some x)
    (n : SessionNo) (resp : Response) :
    let t := (((s.renewed n).putLease k (some y)).place l resp).refresh
    t.leases[k] = some y ∧ s.OtherLeasesKept t k ∧ t.channels = s.channels ∧ t.timebases = s.timebases
      ∧ t.carrierA = s.carrierA ∧ t.carrierB = s.carrierB ∧ s.OutputsKept t ∧ s.Answered t l resp := by
  obtain ⟨htimebases, hA, hB, houtputs⟩ := h.kept (t := ((s.renewed n).putLease k (some y)).place l resp) hs hx
    (by simp [State.putLease]) (by simp [State.putLease, State.setLeases]) (by simp [State.putLease, State.setLeases])
    (by simp [State.putLease, State.setLeases]) (by simp) (by simp)
  refine ⟨by simp, fun j hj => ?_, by simp, ?_, ?_, ?_, houtputs, ?_⟩
  · simp [Fin.val_ne_of_ne hj]
  · rwa [State.refresh_timebases]
  · rwa [State.refresh_carrierA]
  · rwa [State.refresh_carrierB]
  · exact State.answered_of_kept l _ (by simp) (by simp) (by simp) (by simp) (by simp) (by simp)

/-- Settles O33: the command passes its checks, and the causes that remain say what becomes of the lease. -/
theorem clearTripRemovesCauses : Obligations.ClearTripRemovesCauses := by
  unfold Obligations.ClearTripRemovesCauses
  intro s l ps n r k x causes remaining removed retiring h hcounts hs hk hx hauth hphase hremaining hremoved
  obtain rfl : remaining = causes.inter s.trip.latches := by
    rw [hremaining, SourceSet.inter]
    simp [TripUnit.latches]
  obtain rfl : removed = causes.diff s.trip.latches := by
    rw [hremoved, SourceSet.diff]
    simp [TripUnit.latches]
  have hsafe : x.phase.showsSafe = true := by rw [hphase]; rfl
  obtain ⟨hleft, harmed, hgone⟩ := State.clearLease_cases (s := s.renewed n) (k := k) hphase
  obtain ⟨hsessions, htrip, hsupply⟩ := (s.renewed n).clearLease_keeps k x
  refine ⟨_, State.happen_served h (performClearTrip_ok h hk hx hauth hphase),
    State.renews_renewed h (by rwa [State.refresh_sessions, State.place_sessions]),
    ⟨by rwa [State.refresh_trip, State.place_trip], by rwa [State.refresh_supplyMv, State.place_supplyMv]⟩,
    fun hsome => ?_, fun hnone hstays => ?_, fun hnone hgoes => ?_⟩
  · rw [hleft hsome]
    obtain ⟨hlease, hothers, hchannels, htimebases, hA, hB, houtputs, hanswered⟩ := State.cleared_kept (l := l)
      (y := { x with phase := .tripped (causes.inter s.trip.latches) retiring }) ⟨rfl, hsafe, rfl⟩ hs hx n _
    refine ⟨hlease, hothers, hchannels, htimebases, hA, hB, houtputs, ?_⟩
    rw [State.lease_putLease, clearTripAnswer_left hsome] at hanswered ⊢
    exact hanswered
  · rw [harmed hnone hstays]
    obtain ⟨hlease, hothers, hchannels, htimebases, hA, hB, houtputs, hanswered⟩ := State.cleared_kept (l := l)
      (y := { x with phase := .armed }) ⟨rfl, hsafe, rfl⟩ hs hx n _
    refine ⟨hlease, hothers, hchannels, htimebases, hA, hB, houtputs, ?_⟩
    rw [State.lease_putLease, hnone, clearTripAnswer_none] at hanswered ⊢
    exact hanswered
  · rw [hgone hnone hgoes]
    refine ⟨?_, State.settled_refresh _, ?_⟩
    · exact (State.tornDown_refresh (hcounts.renewed n) (by simp [State.teardown]) (by simp [State.teardown])
        (by simp [State.teardown]) (by simp [State.teardown]) (by simp [State.teardown]) (by simp [State.teardown])
        (by simp [State.teardown])).of_renewed
    · rw [State.lease_teardown, hnone, clearTripAnswer_none]
      exact State.answered_of_kept l _ (by simp) (by simp) (by simp) (by simp) (by simp) (by simp)

end Sys2Proof.Machine
end

section
/-! A refused command (R163, R164): every command's own checks answer GOOD where they accept it, but for a CLEAR TRIP that
leaves causes; so any other answer is a refusal, which carries no data and moves nothing but the renewal. -/

namespace Sys2Proof.Machine

variable {s t u : State} {c : Command} {l : Link} {f : Frame} {ps : List Byte} {n : SessionNo} {r : SessionRecord}
  {resp : Response}

/-! ## What an accepted command answers -/

/-- A response that says a command was performed: GOOD, or FAULT_ACTIVE from CLEAR TRIP (R113, R164). -/
def Response.Performs (resp : Response) (c : Command) : Prop :=
  resp.status = .good ∨ (c = .clearTrip ∧ resp.status = .faultActive)

/-- Where a command's own checks accept it, its response says so. -/
def SaysPerformed (c : Command) (p : Performed) : Prop := ∀ x, p = .ok x → x.2.Performs c

theorem saysPerformed_good {data : List Byte} : SaysPerformed c (.ok (t, goodResponse data)) := by
  rintro _ ⟨⟩
  exact .inl rfl

/-- A check before the effect answers for itself. -/
theorem saysPerformed_bind {α : Type} {x : Except Reject α} {g : α → Performed} (h : ∀ a, SaysPerformed c (g a)) :
    SaysPerformed c (x >>= g) := fun y hy => by
  obtain ⟨a, -, ha⟩ := bind_eq_ok.1 hy
  exact h a y ha

theorem saysPerformed_claim : SaysPerformed c (performClaimCommand s n ps) :=
  saysPerformed_bind fun _ => saysPerformed_bind fun _ => saysPerformed_bind fun _ => saysPerformed_bind fun _ =>
    saysPerformed_bind fun _ => saysPerformed_bind fun _ => saysPerformed_bind fun _ => saysPerformed_bind fun _ =>
      saysPerformed_bind fun _ => saysPerformed_bind fun _ => saysPerformed_good

theorem saysPerformed_amend : SaysPerformed c (performAmend s n ps) :=
  saysPerformed_bind fun _ => saysPerformed_bind fun _ => saysPerformed_bind fun _ => saysPerformed_bind fun _ =>
    saysPerformed_bind fun _ => saysPerformed_bind fun _ => saysPerformed_bind fun _ => saysPerformed_bind fun _ =>
      saysPerformed_good

/-- CLEAR TRIP is GOOD with no cause left, and FAULT_ACTIVE with some (R113). -/
theorem saysPerformed_clearTrip : SaysPerformed .clearTrip (performClearTrip s n ps) :=
  saysPerformed_bind fun _ => saysPerformed_bind fun _ => saysPerformed_bind fun x => by
    rintro _ ⟨⟩
    by_cases hleft : x.causes.inter s.trip.latches ≠ SourceSet.empty
    · exact .inr ⟨rfl, if_pos hleft⟩
    · exact .inl (if_neg hleft)

theorem saysPerformed_readNotices : SaysPerformed c (performReadNotices s n ps) := by
  unfold performReadNotices
  split <;> exact saysPerformed_good

theorem saysPerformed_queryLease : SaysPerformed c (performQueryLease s n ps) :=
  saysPerformed_bind fun _ => saysPerformed_bind fun _ => by
    split
    · exact saysPerformed_good
    · exact saysPerformed_bind fun _ => saysPerformed_good

theorem saysPerformed_haltAll : SaysPerformed c (performHaltAll s n ps) :=
  saysPerformed_bind fun _ => by
    split <;> exact saysPerformed_good

/-- Every command but OPEN SESSION is taken for a session, and answers as performed where its own checks accept it. -/
theorem exec_eq_takeSession (hc : c ≠ .openSession) :
    ∃ perform : State → SessionNo → List Byte → Performed, (∀ s n ps, SaysPerformed c (perform s n ps))
      ∧ ∀ s, exec c.instr s = s.happen fun s => s.takeSession c perform := by
  cases c with
  | openSession => exact absurd rfl hc
  | renew => exact ⟨_, fun _ _ _ => saysPerformed_good, fun _ => rfl⟩
  | closeSession => exact ⟨_, fun _ _ _ => saysPerformed_good, fun _ => rfl⟩
  | claim => exact ⟨_, fun _ _ _ => saysPerformed_claim, fun _ => rfl⟩
  | amend => exact ⟨_, fun _ _ _ => saysPerformed_amend, fun _ => rfl⟩
  | clearTrip => exact ⟨_, fun _ _ _ => saysPerformed_clearTrip, fun _ => rfl⟩
  | readNotices => exact ⟨_, fun _ _ _ => saysPerformed_readNotices, fun _ => rfl⟩
  | queryLease => exact ⟨_, fun _ _ _ => saysPerformed_queryLease, fun _ => rfl⟩
  | haltAll => exact ⟨_, fun _ _ _ => saysPerformed_haltAll, fun _ => rfl⟩
  | retune =>
    exact ⟨performRetune, fun _ _ _ => saysPerformed_bind fun _ => saysPerformed_bind fun _ => saysPerformed_bind fun _ =>
      saysPerformed_bind fun _ => saysPerformed_bind fun _ => saysPerformed_good, fun _ => rfl⟩
  | retire =>
    exact ⟨performRetire, fun _ _ _ => saysPerformed_bind fun _ => saysPerformed_bind fun _ => saysPerformed_bind fun _ =>
      saysPerformed_bind fun _ => saysPerformed_good, fun _ => rfl⟩
  | adopt =>
    exact ⟨performAdopt, fun _ _ _ => saysPerformed_bind fun _ => saysPerformed_bind fun _ => saysPerformed_bind fun _ =>
      saysPerformed_bind fun _ => saysPerformed_good, fun _ => rfl⟩
  | setCarrier =>
    exact ⟨performSetCarrier, fun _ _ _ => saysPerformed_bind fun _ => saysPerformed_bind fun _ => saysPerformed_bind fun _ =>
      saysPerformed_bind fun _ => saysPerformed_good, fun _ => rfl⟩
  | setFaultEdge =>
    exact ⟨performSetFaultEdge, fun _ _ _ => saysPerformed_bind fun _ => saysPerformed_bind fun _ => saysPerformed_bind fun _ =>
      saysPerformed_bind fun _ => saysPerformed_good, fun _ => rfl⟩
  | setPinRest =>
    exact ⟨performSetPinRest, fun _ _ _ => saysPerformed_bind fun _ => saysPerformed_bind fun _ => saysPerformed_bind fun _ =>
      saysPerformed_good, fun _ => rfl⟩
  | setSupplyLevel =>
    exact ⟨performSetSupplyLevel, fun _ _ _ => saysPerformed_bind fun _ => saysPerformed_bind fun _ => saysPerformed_good,
      fun _ => rfl⟩
  | readFaults => exact ⟨performReadFaults, fun _ _ _ => saysPerformed_bind fun _ => saysPerformed_good, fun _ => rfl⟩
  | releaseHalt => exact ⟨performReleaseHalt, fun _ _ _ => saysPerformed_bind fun _ => saysPerformed_good, fun _ => rfl⟩
  | querySession => exact ⟨performQuerySession, fun _ _ _ => saysPerformed_bind fun _ => saysPerformed_good, fun _ => rfl⟩
  | queryTimebase => exact ⟨performQueryTimebase, fun _ _ _ => saysPerformed_bind fun _ => saysPerformed_good, fun _ => rfl⟩
  | findByPin => exact ⟨performFindByPin, fun _ _ _ => saysPerformed_bind fun _ => saysPerformed_good, fun _ => rfl⟩
  | listLeases => exact ⟨performListLeases, fun _ _ _ => saysPerformed_bind fun _ => saysPerformed_good, fun _ => rfl⟩

/-! ## What a refusal leaves -/

/-- A refusal settled: an accepted command's answer says that it was performed. -/
theorem settleRefusal_refused {p : Performed} (h : SaysPerformed c p) (hnot : ¬ (settleRefusal s p).2.Performs c) :
    (settleRefusal s p).1 = s ∧ (settleRefusal s p).2.data = [] := by
  cases p with
  | error e => exact ⟨rfl, rfl⟩
  | ok x => exact absurd (h x rfl) hnot

/-- The common checks of a command that carries a session (R163, steps 2 to 5). -/
def State.commonChecks (s : State) (c : Command) (l : Link) (f : Frame) : Except Reject SessionNo := do
  checkLength c f
  s.checkSession c l f

/-- A refused command that carries a session: refused by the common checks, or after them with the session renewed. -/
theorem State.serveSession_refused {perform : State → SessionNo → List Byte → Performed}
    (hp : ∀ s n ps, SaysPerformed c (perform s n ps)) (hnot : ¬ (s.serveSession c perform l f).2.Performs c) :
    (s.serveSession c perform l f).2.data = []
      ∧ (((∀ n, s.commonChecks c l f ≠ .ok n) ∧ (s.serveSession c perform l f).1 = s)
        ∨ ∃ n, s.commonChecks c l f = .ok n ∧ (s.serveSession c perform l f).1 = s.renewed n) := by
  have hserve : s.serveSession c perform l f = match s.commonChecks c l f with
      | .error e => (s, e.response)
      | .ok n => settleRefusal (s.renewed n) (perform (s.renewed n) n f.params) := rfl
  cases hchecks : s.commonChecks c l f with
  | error e =>
    rw [hserve, hchecks]
    exact ⟨rfl, .inl ⟨nofun, rfl⟩⟩
  | ok m =>
    rw [hchecks] at hserve
    rw [hserve] at hnot ⊢
    obtain ⟨hstate, hdata⟩ := settleRefusal_refused (hp _ _ _) hnot
    exact ⟨hdata, .inr ⟨m, rfl, hstate⟩⟩

/-- A command that passes the common checks is served. -/
theorem State.serves_of_checks (hheld : s.resetHeld = false) (hchosen : s.chosen = some (l, { code := c.code, params := ps }))
    (h : s.commonChecks c l { code := c.code, params := ps } = .ok n) : ∃ r, s.Serves c l ps n r := by
  obtain ⟨_, hlength, hsession⟩ := bind_eq_ok.1 h
  obtain ⟨m, hm, hrecord⟩ := bind_eq_ok.1 hsession
  obtain ⟨r, hr, hlink⟩ := bind_eq_ok.1 hrecord
  obtain ⟨_, hl, hallowed⟩ := bind_eq_ok.1 hlink
  obtain ⟨_, hmay, hn⟩ := bind_eq_ok.1 hallowed
  obtain rfl : m = n := Except.ok.inj hn
  exact ⟨r, hheld, hchosen, by simpa using check_eq_ok.1 hlength, indexOf_eq_some.1 (need_eq_ok.1 hm), need_eq_ok.1 hr,
    beq_iff_eq.1 (check_eq_ok.1 hl), check_eq_ok.1 hmay⟩

/-- The slot of a response placed. -/
theorem State.slot_placed (u : State) (l : Link) (resp : Response) : ((u.place l resp).refresh.link l).slot = .done resp :=
  (State.answered_of_kept (s := u) l resp rfl rfl rfl rfl rfl rfl).slot

/-- A refusal placed changes no table. -/
theorem State.placed_refusal (hs : s.Settled) (hu : u = s ∨ u = s.renewed n) (l : Link) (resp : Response) :
    s.Answered (u.place l resp).refresh l resp ∧ s.LeasesKept (u.place l resp).refresh
      ∧ s.OutputsKept (u.place l resp).refresh ∧ s.TripKept (u.place l resp).refresh := by
  rcases hu with rfl | rfl <;>
    exact ⟨State.answered_of_kept l resp (by simp) (by simp) (by simp) (by simp) (by simp) (by simp),
      State.leasesKept_of_tables (by simp), State.outputsKept_of_tables hs (by simp), ⟨by simp, by simp⟩⟩

/-- An OPEN SESSION answers as performed where it opens a session (R125, R126). -/
theorem saysPerformed_openSession (s : State) (l : Link) (f : Frame) :
    SaysPerformed .openSession (do checkLength .openSession f; performOpenSession s l f.params) :=
  saysPerformed_bind fun _ => saysPerformed_bind fun _ => saysPerformed_bind fun _ => saysPerformed_bind fun _ =>
    saysPerformed_bind fun _ => saysPerformed_good

/-- What an OPEN SESSION that the executor takes leaves, and what it answers (R125, R163). -/
def State.serveOpenSession (s : State) (l : Link) (f : Frame) : State × Response :=
  settleRefusal s (do checkLength .openSession f; performOpenSession s l f.params)

theorem State.takeOpenSession_chosen (h : s.chosen = some (l, f)) (hcode : f.code = Command.openSession.code) :
    s.takeOpenSession = (s.serveOpenSession l f).1.place l (s.serveOpenSession l f).2 := by
  rw [State.takeOpenSession, h]
  exact if_pos hcode

theorem State.takeSession_chosen (perform : State → SessionNo → List Byte → Performed) (h : s.chosen = some (l, f))
    (hcode : f.code = c.code) :
    s.takeSession c perform = (s.serveSession c perform l f).1.place l (s.serveSession c perform l f).2 := by
  rw [State.takeSession, h]
  exact if_pos hcode

/-- The answer of a command that the executor takes is the one in its slot (R162). -/
theorem State.happen_answer {take : State → State} {x : State × Response} (hheld : s.resetHeld = false)
    (htake : take s = x.1.place l x.2) (h : s.happen take = .next t) (hdone : (t.link l).slot = .done resp) :
    t = (x.1.place l x.2).refresh ∧ x.2 = resp := by
  rw [State.happen_free _ hheld, htake] at h
  cases h
  rw [State.slot_placed] at hdone
  cases hdone
  exact ⟨rfl, rfl⟩

/-- Settles O8: the response placed is not one of a command performed, so it is a refusal. -/
theorem refusedCommandsLeaveTheTables : Obligations.RefusedCommandsLeaveTheTables := by
  unfold Obligations.RefusedCommandsLeaveTheTables
  intro s t c l ps resp hheld hs hchosen hexec hdone hgood hfault
  have hnot : ¬ resp.Performs c := fun hperformed =>
    hperformed.elim hgood fun ⟨hclear, hactive⟩ => hfault hclear hactive
  by_cases hopen : c = .openSession
  · subst hopen
    obtain ⟨rfl, rfl⟩ := State.happen_answer (take := State.takeOpenSession) hheld
      (State.takeOpenSession_chosen hchosen rfl) hexec hdone
    obtain ⟨hstate, hdata⟩ := settleRefusal_refused (saysPerformed_openSession s l _) hnot
    obtain ⟨hanswered, hleases, houtputs, htrip⟩ := State.placed_refusal (n := 0) hs (.inl hstate) l
      (s.serveOpenSession l { code := Command.openSession.code, params := ps }).2
    refine ⟨hdata, hanswered, hleases, houtputs, htrip, fun n r hc => absurd rfl hc, fun _ => ?_⟩
    rw [State.refresh_sessions, State.place_sessions]
    exact congrArg State.sessions hstate
  · obtain ⟨perform, hp, hrow⟩ := exec_eq_takeSession hopen
    rw [hrow] at hexec
    obtain ⟨rfl, rfl⟩ := State.happen_answer (take := fun s => s.takeSession c perform) hheld
      (State.takeSession_chosen perform hchosen rfl) hexec hdone
    obtain ⟨hdata, ⟨hrefused, hstate⟩ | ⟨m, hchecked, hstate⟩⟩ := State.serveSession_refused hp hnot
    · obtain ⟨hanswered, hleases, houtputs, htrip⟩ := State.placed_refusal (n := 0) hs (.inl hstate) l
        (s.serveSession c perform l { code := c.code, params := ps }).2
      refine ⟨hdata, hanswered, hleases, houtputs, htrip, fun n r _ h => ?_, fun _ => ?_⟩
      · exact absurd (State.checks_of_serves h) (hrefused n)
      · rw [State.refresh_sessions, State.place_sessions, hstate]
    · obtain ⟨hanswered, hleases, houtputs, htrip⟩ := State.placed_refusal hs (.inr hstate) l
        (s.serveSession c perform l { code := c.code, params := ps }).2
      refine ⟨hdata, hanswered, hleases, houtputs, htrip, fun n r _ h => ?_, fun hunserved => ?_⟩
      · obtain rfl : m = n := Except.ok.inj (hchecked.symm.trans (State.checks_of_serves h))
        exact State.renews_renewed h (by rw [State.refresh_sessions, State.place_sessions, hstate])
      · obtain ⟨r, hserves⟩ := State.serves_of_checks hheld hchosen hchecked
        exact absurd hserves (hunserved.resolve_left hopen m r)

end Sys2Proof.Machine
end

section
/-! Sessions and holders through a step (R125, R127). A step moves them by a few kinds of moves alone (`State.HolderMove`): an
OPEN SESSION fills a FREE record, a CLAIM or an ADOPT gives one lease to a session, and everything else opens no session and
gives no lease to anyone (`State.NoneGained`). -/

namespace Sys2Proof.Machine

open Relation

variable {s t : State} {n : SessionNo} {k : LeaseNo}

/-! ## Sessions and holders read -/

theorem SessionRecord.isOpen_iff (r : SessionRecord) : r.isOpen = true ↔ ∃ x, r.status = .opened x := by
  unfold SessionRecord.isOpen
  cases r.status <;> simp

theorem SessionRecord.isOpen_opened {r : SessionRecord} {x : Nat} (h : r.status = .opened x) : r.isOpen = true :=
  r.isOpen_iff.2 ⟨x, h⟩

theorem SessionRecord.isOpen_lapsed {r : SessionRecord} {x : Nat} (h : r.status = .lapsed x) : r.isOpen = false := by
  rw [SessionRecord.isOpen, h]

theorem State.isSupervisor_iff_exists : s.isSupervisor n = true ↔ ∃ r, s.sessions[n] = some r ∧ r.cls = .supervisor := by
  simp only [State.isSupervisor, Option.any_eq_true, beq_iff_eq]

theorem State.supervisor_eq_none : s.supervisor = none ↔ ∀ m, s.isSupervisor m = false := by
  simp [State.supervisor]

theorem State.holdingsAgree_iff : s.HoldingsAgree
    ↔ (∀ (k : LeaseNo) n, heldBy s.leases[k] n = true → s.sessions[n].isSome = true)
      ∧ ∀ (n : SessionNo) r, s.sessions[n] = some r → r.isOpen = true → s.heldCount n ≤ r.quota := by
  simp only [State.HoldingsAgree, leaseHas_iff, SessionRecord.isOpen_iff, heldBy_iff]
  exact and_congr_left' ⟨fun h k n ⟨x, hx, hn⟩ => hn ▸ h k x hx, fun h k x hx => h k _ ⟨x, hx, rfl⟩⟩

/-! ## Held-lease counts (R1) -/

theorem length_filter_eq_sum {α : Type} (p : α → Bool) (xs : List α) :
    (xs.filter p).length = (xs.map fun x => (p x).toNat).sum := by
  induction xs with
  | nil => rfl
  | cons x xs ih => cases h : p x <;> simp [h, ih, Nat.add_comm]

/-- With one lease record replaced, each held-lease count moves by that lease alone. -/
theorem State.heldCount_of_others (h : ∀ j : LeaseNo, j ≠ k → t.leases[j] = s.leases[j]) (n : SessionNo) :
    t.heldCount n + (heldBy s.leases[k] n).toNat = s.heldCount n + (heldBy t.leases[k] n).toNat := by
  have hcount (u : State) (hu : ∀ j : LeaseNo, j ≠ k → u.leases[j] = s.leases[j]) : u.heldCount n
      = ((List.finRange 16).map fun j => if j = k then 0 else (heldBy s.leases[j] n).toNat).sum
        + (heldBy u.leases[k] n).toNat := by
    rw [State.heldCount, length_filter_eq_sum]
    exact sum_map_finRange_put (fun j hj => by rw [if_neg hj, hu j hj]) (if_pos rfl)
  rw [hcount t h, hcount s fun _ _ => rfl]
  omega

/-- A session that comes to hold no lease it did not hold holds no more of them. -/
theorem State.heldCount_mono (h : ∀ k : LeaseNo, heldBy t.leases[k] n = true → heldBy s.leases[k] n = true) :
    t.heldCount n ≤ s.heldCount n :=
  (List.monotone_filter_right _ h).length_le

/-! ## Kinds of moves -/

/-- A session goes on under the terms it was opened with: class, link and quota kept, and never OPEN again once LAPSED. -/
structure SessionRecord.SameTerms (r r' : SessionRecord) : Prop where
  cls : r'.cls = r.cls
  link : r'.link = r.link
  quota : r'.quota = r.quota
  opened : r'.isOpen = true → r.isOpen = true

/-- No session is opened and no lease is given to anyone: every session and every lease was there before, the session under
the same terms and the lease with the same holder, and a session goes with its leases. -/
structure State.NoneGained (s t : State) : Prop where
  sessions : ∀ (n : SessionNo) r', t.sessions[n] = some r' → ∃ r, s.sessions[n] = some r ∧ r.SameTerms r'
  leases : ∀ (k : LeaseNo) n, heldBy t.leases[k] n = true →
    heldBy s.leases[k] n = true ∧ (s.sessions[n].isSome = true → t.sessions[n].isSome = true)

/-- The kinds of moves that sessions and holders make, each with what was checked before it. -/
inductive State.HolderMove : State → State → Prop
  | noneGained {s t : State} (h : s.NoneGained t) : HolderMove s t
  | opened {s : State} {n : SessionNo} {r : SessionRecord} (free : s.sessions[n] = none)
      (supervisor : r.cls = .supervisor → r.link = .b ∧ s.supervisor = none) : HolderMove s (s.setSession n (some r))
  | given {s t : State} {n : SessionNo} {r : SessionRecord} {k : LeaseNo}
      (sessions : t.sessions = s.sessions) (others : ∀ j : LeaseNo, j ≠ k → t.leases[j] = s.leases[j])
      (session : s.sessions[n] = some r) (below : s.heldCount n ≠ r.quota) 
      (lease : ∀ m, heldBy t.leases[k] m = true → m = n) : HolderMove s t

/-- Sessions and holders move by any number of moves. -/
abbrev State.HolderMoves : State → State → Prop := ReflTransGen State.HolderMove

theorem State.NoneGained.moves (h : s.NoneGained t) : s.HolderMoves t := .single (.noneGained h)

/-! ## The rules through the moves -/

/-- The rules of sessions (R125, R127). -/
structure State.SessionRules (s : State) : Prop where
  one : s.OneSupervisor
  holdings : s.HoldingsAgree

theorem State.NoneGained.isSupervisor (h : s.NoneGained t) (hn : t.isSupervisor n = true) : s.isSupervisor n = true := by
  obtain ⟨r', hr', hcls⟩ := State.isSupervisor_iff_exists.1 hn
  obtain ⟨r, hr, hterms⟩ := h.sessions n r' hr'
  exact State.isSupervisor_iff_exists.2 ⟨r, hr, hterms.cls.symm.trans hcls⟩

theorem State.NoneGained.rules (h : s.NoneGained t) (hs : s.SessionRules) : t.SessionRules := by
  obtain ⟨hheld, hquota⟩ := State.holdingsAgree_iff.1 hs.holdings
  refine ⟨fun n hn => ?_, State.holdingsAgree_iff.2 ⟨fun k n hk => ?_, fun n r' hr' hopen => ?_⟩⟩
  · obtain ⟨hlink, hone⟩ := hs.one n (h.isSupervisor hn)
    refine ⟨fun r' hr' => ?_, fun m hm => hone m (h.isSupervisor hm)⟩
    obtain ⟨r, hr, hterms⟩ := h.sessions n r' hr'
    exact hterms.link.trans (hlink r hr)
  · obtain ⟨hbefore, hsome⟩ := h.leases k n hk
    exact hsome (hheld k n hbefore)
  · obtain ⟨r, hr, hterms⟩ := h.sessions n r' hr'
    rw [hterms.quota]
    exact (State.heldCount_mono fun k hk => (h.leases k n hk).1).trans (hquota n r hr (hterms.opened hopen))

theorem State.session_setSession (s : State) (n : SessionNo) (r : Session) : (s.setSession n r).sessions[n] = r := by simp

theorem State.session_setSession_other (s : State) (r : Session) {m : SessionNo} (h : m ≠ n) :
    (s.setSession n r).sessions[m] = s.sessions[m] := by simp [Fin.val_ne_of_ne h]

/-- No lease is held by a session whose record is FREE, so a session opened in it holds none (R126, R127). -/
theorem State.SessionRules.heldCount_free (hs : s.SessionRules) (hn : s.sessions[n] = none) : s.heldCount n = 0 := by
  rw [State.heldCount, List.length_eq_zero_iff, List.filter_eq_nil_iff]
  intro k _ hk
  have hsome := (State.holdingsAgree_iff.1 hs.holdings).1 k n hk
  rw [hn] at hsome
  cases hsome

theorem State.SessionRules.setSession (hs : s.SessionRules) {r : SessionRecord} (hfree : s.sessions[n] = none)
    (hsup : r.cls = .supervisor → r.link = .b ∧ s.supervisor = none) : (s.setSession n (some r)).SessionRules := by
  obtain ⟨hheld, hquota⟩ := State.holdingsAgree_iff.1 hs.holdings
  have hother {m : SessionNo} (hm : m ≠ n) : (s.setSession n (some r)).isSupervisor m = s.isSupervisor m := by
    rw [State.isSupervisor, s.session_setSession_other _ hm, State.isSupervisor]
  have hself (h : (s.setSession n (some r)).isSupervisor n = true) : r.link = .b ∧ ∀ m, s.isSupervisor m = false := by
    rw [State.isSupervisor_iff (s.session_setSession n _)] at h
    exact ⟨(hsup h).1, State.supervisor_eq_none.1 (hsup h).2⟩
  refine ⟨fun m hm => ?_, State.holdingsAgree_iff.2 ⟨fun k m hk => ?_, fun m r' hr' hopen => ?_⟩⟩
  · by_cases hmn : m = n
    · subst hmn
      obtain ⟨hlink, hnone⟩ := hself hm
      refine ⟨fun r' hr' => ?_, fun j hj => by_contra fun hjm => ?_⟩
      · rw [s.session_setSession] at hr'
        cases hr'
        exact hlink
      · rw [hother hjm, hnone j] at hj
        cases hj
    · rw [hother hmn] at hm
      refine ⟨fun r' hr' => ?_, fun j hj => ?_⟩
      · rw [s.session_setSession_other _ hmn] at hr'
        exact (hs.one m hm).1 r' hr'
      · by_cases hjn : j = n
        · subst hjn
          rw [(hself hj).2 m] at hm
          cases hm
        · rw [hother hjn] at hj
          exact (hs.one m hm).2 j hj
  · by_cases hmn : m = n
    · rw [hmn, s.session_setSession]
      rfl
    · rw [s.session_setSession_other _ hmn]
      exact hheld k m hk
  · by_cases hmn : m = n
    · subst hmn
      exact (hs.heldCount_free hfree).trans_le (Nat.zero_le _)
    · rw [s.session_setSession_other _ hmn] at hr'
      exact hquota m r' hr' hopen

theorem State.HolderMove.rules (hm : State.HolderMove s t) (hs : s.SessionRules) : t.SessionRules := by
  cases hm with
  | noneGained h => exact h.rules hs
  | opened free supervisor => exact hs.setSession free supervisor
  | @given _ n r k sessions others session below lease =>
    obtain ⟨hheld, hquota⟩ := State.holdingsAgree_iff.1 hs.holdings
    have hsupervisor (m : SessionNo) : t.isSupervisor m = s.isSupervisor m := by
      rw [State.isSupervisor, sessions, State.isSupervisor]
    refine ⟨fun m hm => ?_, State.holdingsAgree_iff.2 ⟨fun j m hj => ?_, fun m r' hr' hopen => ?_⟩⟩
    · simp only [hsupervisor, sessions] at hm ⊢
      exact hs.one m hm
    · rw [sessions]
      by_cases hjk : j = k
      · rw [hjk] at hj
        rw [lease m hj, session]
        rfl
      · rw [others j hjk] at hj
        exact hheld j m hj
    · rw [sessions] at hr'
      have hle := hquota m r' hr' hopen
      have hcount := State.heldCount_of_others others m
      by_cases hmn : m = n
      · subst hmn
        obtain rfl : r = r' := Option.some.inj (session.symm.trans hr')
        have := Bool.toNat_le (heldBy t.leases[k] m)
        omega
      · have hnot : heldBy t.leases[k] m = false := Bool.eq_false_iff.2 (mt (lease m) hmn)
        rw [hnot, Bool.toNat_false] at hcount
        omega

end Sys2Proof.Machine
end

section
/-! What gains nothing (R125, R127): every operation of the part but the opening of a session and the giving of a lease keeps
each session's terms and each lease's holder, or lets them go. -/

namespace Sys2Proof.Machine

variable {s t : State} {n : SessionNo} {k : LeaseNo}

/-! ## Terms and holders kept -/

theorem SessionRecord.SameTerms.refl (r : SessionRecord) : r.SameTerms r := ⟨rfl, rfl, rfl, id⟩

/-- A session that lapses, or whose hold falls, goes on under its terms. -/
theorem SessionRecord.sameTerms_lapsed (r : SessionRecord) (x : Nat) : r.SameTerms { r with status := .lapsed x } :=
  ⟨rfl, rfl, rfl, fun hopen => by rw [SessionRecord.isOpen_lapsed rfl] at hopen; cases hopen⟩

theorem SessionRecord.sameTerms_notices (r : SessionRecord) (x : Vector KindSet 16) : r.SameTerms { r with notices := x } :=
  ⟨rfl, rfl, rfl, fun hopen => by rwa [SessionRecord.isOpen] at hopen⟩

theorem SessionRecord.SameTerms.trans {r r' r'' : SessionRecord} (h : r.SameTerms r') (h' : r'.SameTerms r'') :
    r.SameTerms r'' :=
  ⟨h'.cls.trans h.cls, h'.link.trans h.link, h'.quota.trans h.quota, h.opened ∘ h'.opened⟩

theorem State.NoneGained.trans {u : State} (h : s.NoneGained t) (h' : t.NoneGained u) : s.NoneGained u where
  sessions n r'' hr'' := by
    obtain ⟨r', hr', hterms'⟩ := h'.sessions n r'' hr''
    obtain ⟨r, hr, hterms⟩ := h.sessions n r' hr'
    exact ⟨r, hr, hterms.trans hterms'⟩
  leases k n hk := by
    obtain ⟨hk', hsome'⟩ := h'.leases k n hk
    obtain ⟨hk'', hsome⟩ := h.leases k n hk'
    exact ⟨hk'', hsome' ∘ hsome⟩

/-- Where every session goes on under its terms, only a lease that changes hands could be a gain. -/
theorem State.noneGained_of_rel (hn : ∀ n : SessionNo, Option.Rel SessionRecord.SameTerms s.sessions[n] t.sessions[n])
    (hl : ∀ (k : LeaseNo) n, heldBy t.leases[k] n = true → heldBy s.leases[k] n = true) : s.NoneGained t where
  sessions n r' hr' := by
    have hrel := hn n
    rw [hr'] at hrel
    cases hr : s.sessions[n] with
    | none => rw [hr] at hrel; cases hrel
    | some r => rw [hr] at hrel; cases hrel; exact ⟨r, rfl, ‹_›⟩
  leases k n hk := by
    refine ⟨hl k n hk, fun hsome => ?_⟩
    have hrel := hn n
    cases hr' : t.sessions[n] with
    | none => rw [hr'] at hrel; cases hr : s.sessions[n] <;> rw [hr] at hrel hsome <;> cases hrel; cases hsome
    | some r' => rfl

theorem sameTerms_self (x : Session) : Option.Rel SessionRecord.SameTerms x x := by
  cases x with
  | none => exact .none
  | some r => exact .some (.refl r)

theorem sameTerms_map {f : SessionRecord → SessionRecord} (hf : ∀ r : SessionRecord, r.SameTerms (f r)) (x : Session) :
    Option.Rel SessionRecord.SameTerms x (x.map f) := by
  cases x with
  | none => exact .none
  | some r => exact .some (hf r)

theorem State.noneGained_of_sessions (hn : t.sessions = s.sessions)
    (hl : ∀ (k : LeaseNo) n, heldBy t.leases[k] n = true → heldBy s.leases[k] n = true) : s.NoneGained t :=
  State.noneGained_of_rel (fun n => by rw [hn]; exact sameTerms_self _) hl

theorem State.noneGained_of_eq (hn : t.sessions = s.sessions) (hl : t.leases = s.leases) : s.NoneGained t :=
  State.noneGained_of_sessions hn fun k n hk => by rwa [hl] at hk

theorem State.NoneGained.refl (s : State) : s.NoneGained s := State.noneGained_of_eq rfl rfl

theorem heldBy_map {f : LeaseRecord → LeaseRecord} (hf : ∀ x, (f x).holder = x.holder) (l : Lease) (n : SessionNo) :
    heldBy (l.map f) n = heldBy l n := by
  cases l with
  | none => rfl
  | some x => rw [Option.map_some, heldBy, heldBy, hf]

theorem LeaseRecord.holder_atBoundary (r : LeaseRecord) : r.atBoundary.holder = r.holder := by
  unfold LeaseRecord.atBoundary
  split <;> rfl

/-! ## The shared operations -/

variable (s)

theorem State.noneGained_setSession {r r' : SessionRecord} (hr : s.sessions[n] = some r) (h : r.SameTerms r') :
    s.NoneGained (s.setSession n (some r')) := by
  refine State.noneGained_of_rel (fun m => ?_) fun k m hk => by simpa using hk
  by_cases hm : m = n
  · rw [hm, hr, s.session_setSession]
    exact .some h
  · rw [s.session_setSession_other _ hm]
    exact sameTerms_self _

theorem State.sameTerms_setSession_map {f : SessionRecord → SessionRecord} (hf : ∀ r : SessionRecord, r.SameTerms (f r))
    (n m : SessionNo) :
    Option.Rel SessionRecord.SameTerms s.sessions[m] (s.setSession n (s.sessions[n].map f)).sessions[m] := by
  by_cases hm : m = n
  · rw [hm, s.session_setSession]
    exact sameTerms_map hf _
  · rw [s.session_setSession_other _ hm]
    exact sameTerms_self _

theorem SessionRecord.sameTerms_renewed (r : SessionRecord) : r.SameTerms r.renewed := by
  unfold SessionRecord.renewed
  split
  · exact .refl r
  · exact ⟨rfl, rfl, rfl, fun _ => SessionRecord.isOpen_opened ‹_›⟩

theorem State.noneGained_renewed (n : SessionNo) : s.NoneGained (s.renewed n) :=
  State.noneGained_of_rel (s.sameTerms_setSession_map SessionRecord.sameTerms_renewed n) fun k m hk => by simpa using hk

theorem State.noneGained_refresh : s.NoneGained s.refresh := State.noneGained_of_eq (by simp) (by simp)

theorem State.noneGained_setLink (l : Link) (p : LinkPort) : s.NoneGained (s.setLink l p) :=
  State.noneGained_of_eq (by simp) (by simp)

theorem State.noneGained_place (l : Link) (r : Response) : s.NoneGained (s.place l r) :=
  State.noneGained_of_eq (by simp) (by simp)

theorem State.noneGained_setTimebase (tb : TimebaseNo) (y : Timebase) : s.NoneGained (s.setTimebase tb y) :=
  State.noneGained_of_eq (by simp) (by simp)

theorem State.noneGained_setInput (i : FaultLine) (x : FaultInput) : s.NoneGained (s.setInput i x) :=
  State.noneGained_of_eq (by simp) (by simp)

theorem State.noneGained_setTrip (x : TripUnit) : s.NoneGained { s with trip := x } := State.noneGained_of_eq rfl rfl

theorem State.noneGained_setSupply (mv : Nat) : s.NoneGained { s with supplyMv := mv } := State.noneGained_of_eq rfl rfl

theorem State.noneGained_setRstn (v : LineLevel) : s.NoneGained { s with rstn := v } := State.noneGained_of_eq rfl rfl

theorem State.noneGained_releaseReset : s.NoneGained s.releaseReset := State.noneGained_of_eq (by simp) (by simp)

theorem State.noneGained_setCarrierUnit (c : Carrier) (u : CarrierUnit) : s.NoneGained (s.setCarrierUnit c u) :=
  State.noneGained_of_eq (by simp) (by simp)

theorem State.noneGained_freeLeases (w : LeaseNo → Bool) : s.NoneGained (s.freeLeases w) := by
  refine State.noneGained_of_sessions (by simp) fun k n hk => ?_
  rw [Fin.getElem_fin, State.leases_freeLeases] at hk
  split at hk
  · cases hk
  · exact hk

variable {s} in
/-- A lease record replaced by one with the same holder. -/
theorem State.noneGained_of_put {x x' : LeaseRecord} (hx : s.leases[k] = some x) (hholder : x'.holder = x.holder)
    (hn : t.sessions = s.sessions) (hl : ∀ j : LeaseNo, t.leases[j] = if j = k then some x' else s.leases[j]) :
    s.NoneGained t := by
  refine State.noneGained_of_sessions hn fun j n hj => ?_
  rw [hl] at hj
  split at hj
  · subst j
    rwa [hx, heldBy, ← hholder]
  · exact hj

variable {s} in
theorem State.noneGained_putLease {x x' : LeaseRecord} (hx : s.leases[k] = some x) (hholder : x'.holder = x.holder) :
    s.NoneGained (s.putLease k (some x')) :=
  State.noneGained_of_put hx hholder (by simp) fun j => by simp only [Fin.getElem_fin, State.leases_putLease, Fin.ext_iff]

theorem State.sameTerms_recordNotices (kinds : LeaseNo → KindSet) (n : SessionNo) :
    Option.Rel SessionRecord.SameTerms s.sessions[n] (s.recordNotices kinds).sessions[n] := by
  rw [Fin.getElem_fin, Fin.getElem_fin, State.sessions_recordNotices]
  exact sameTerms_map (fun r => r.sameTerms_notices _) _

theorem State.noneGained_takeTrip (reached : LeaseRecord → Bool) (cause : Source) :
    s.NoneGained (s.takeTrip reached cause) := by
  refine State.noneGained_of_rel (fun n => ?_) fun k n hk => ?_
  · rw [State.sessions_takeTrip]
    exact s.sameTerms_recordNotices _ n
  · rwa [Fin.getElem_fin, State.leases_takeTrip, heldBy_map fun x => by split <;> rfl] at hk

theorem State.noneGained_takeBoundary (tb : TimebaseNo) (x : TimebaseRun) : s.NoneGained (s.takeBoundary tb x) := by
  rw [State.takeBoundary_eq]
  refine State.NoneGained.trans (State.noneGained_of_rel (fun n => ?_) fun k n hk => ?_)
    (State.noneGained_freeLeases (s.moveBoundary tb x) _)
  · have hsessions : (s.moveBoundary tb x).sessions
        = (s.recordNotices fun n => boundaryKindsOf s.leases[n] tb x.staged.isSome).sessions := by
      simp [State.moveBoundary]
    rw [hsessions]
    exact s.sameTerms_recordNotices _ n
  · rwa [Fin.getElem_fin, State.leases_moveBoundary, heldBy_map fun x => by split <;> simp [LeaseRecord.holder_atBoundary]]
      at hk

/-- A session closed goes with every lease it held (R134, R135). -/
theorem State.noneGained_closeSession (n : SessionNo) : s.NoneGained (s.closeSession n) where
  sessions m r hr := by
    rw [Fin.getElem_fin, State.sessions_closeSession] at hr
    split at hr
    · cases hr
    · exact ⟨r, hr, .refl r⟩
  leases k m hk := by
    rw [Fin.getElem_fin, State.leases_closeSession] at hk
    split at hk
    · cases hk
    · rename_i hnot
      refine ⟨hk, fun hsome => ?_⟩
      have hm : m ≠ n := fun hm => hnot (hm ▸ hk)
      rwa [Fin.getElem_fin, State.sessions_closeSession, if_neg (Fin.val_ne_of_ne hm)]

theorem State.noneGained_fullReset : s.NoneGained s.fullReset where
  sessions n r hr := by
    rw [s.session_fullReset] at hr
    cases hr
  leases k n hk := by
    rw [s.lease_fullReset] at hk
    cases hk

theorem State.noneGained_lapseSession (n : SessionNo) : s.NoneGained (s.lapseSession n) := by
  rcases s.lapseSession_cases n with h | ⟨r, x, hr, hx, h⟩ <;> rw [h]
  · exact .refl s
  · exact (s.noneGained_setSession hr (r.sameTerms_lapsed _)).trans (State.noneGained_takeTrip _ _ _)

theorem State.noneGained_timerHappening (n : SessionNo) : s.NoneGained (s.timerHappening n) := by
  rcases s.timerHappening_cases n with h | ⟨r, x, hr, h, hx⟩ | h | h <;> rw [h]
  · exact .refl s
  · refine s.noneGained_setSession hr ?_
    rcases hx with ⟨y, hy, -⟩ | ⟨y, -, -, rfl⟩
    · exact ⟨rfl, rfl, rfl, fun _ => SessionRecord.isOpen_opened hy⟩
    · exact r.sameTerms_lapsed _
  · exact s.noneGained_lapseSession n
  · exact s.noneGained_closeSession n

theorem State.noneGained_foldl {α : Type} {f : State → α → State} (h : ∀ (u : State) a, u.NoneGained (f u a)) (xs : List α) :
    s.NoneGained (xs.foldl f s) := by
  induction xs generalizing s with
  | nil => exact .refl s
  | cons x xs ih => exact (h s x).trans (ih _)

theorem State.noneGained_setInputLatch (i : FaultLine) : s.NoneGained (s.setInputLatch i) := by
  rcases s.setInputLatch_cases i with ⟨-, h⟩ | ⟨-, h⟩ <;> rw [h]
  · exact .refl s
  · exact (s.noneGained_setInput i _).trans (State.noneGained_takeTrip _ _ _)

theorem State.noneGained_setSupplyLatch : s.NoneGained s.setSupplyLatch := by
  rcases s.setSupplyLatch_cases with ⟨-, h⟩ | ⟨-, h⟩ <;> rw [h]
  · exact .refl s
  · exact (s.noneGained_setTrip _).trans (State.noneGained_takeTrip _ _ _)

theorem State.noneGained_supplyFell : s.NoneGained s.supplyFell := by
  unfold State.supplyFell
  split
  · exact (s.noneGained_setTrip _).trans (State.noneGained_setSupplyLatch _)
  · exact .refl s

theorem State.noneGained_supplyRose : s.NoneGained s.supplyRose := by
  unfold State.supplyRose
  split
  · exact s.noneGained_setTrip _
  · exact .refl s

theorem State.noneGained_compareSupply : s.NoneGained s.compareSupply := by
  unfold State.compareSupply
  split
  · exact (s.noneGained_setTrip _).trans (State.noneGained_setSupplyLatch _)
  · split
    · exact s.noneGained_setTrip _
    · exact .refl s

theorem State.noneGained_selectEdge (i : FaultLine) (e : Edge) : s.NoneGained (s.selectEdge i e) := by
  simp only [State.selectEdge]
  split
  · exact (s.noneGained_setInput i _).trans (State.noneGained_setInputLatch _ i)
  · exact s.noneGained_setInput i _

variable {s} in
theorem State.noneGained_retireLease {x : LeaseRecord} (hx : s.leases[k] = some x) (m : RetireMode) :
    s.NoneGained (s.retireLease k x m) := by
  unfold State.retireLease
  split
  · exact s.noneGained_freeLeases _
  · rename_i plan _
    exact State.noneGained_of_put (x' := { x with phase := .draining plan }) hx rfl (by simp)
      fun j => by simp only [Fin.getElem_fin, State.leases_startDrain, Fin.ext_iff]

variable {s} in
theorem State.noneGained_clearLease {x : LeaseRecord} (hx : s.leases[k] = some x) : s.NoneGained (s.clearLease k x) := by
  unfold State.clearLease
  split
  · exact State.noneGained_putLease hx rfl
  · split
    · exact s.noneGained_freeLeases _
    · exact State.noneGained_putLease hx rfl

/-! ## Transactions -/

@[simp] theorem State.sessions_selectLink (l : Link) : (s.selectLink l).sessions = s.sessions := by
  unfold State.selectLink
  split <;> simp

@[simp] theorem State.sessions_shiftFree (l : Link) (m : Nat) : (s.shiftFree l m).sessions = s.sessions :=
  s.setLink_sessions l _

@[simp] theorem State.sessions_shiftIgnored (l : Link) (due : Option Byte) (m : Nat) :
    (s.shiftIgnored l due m).sessions = s.sessions := by
  unfold State.shiftIgnored
  split
  · split <;> simp
  · rfl
  · split <;> simp

@[simp] theorem State.sessions_firstByte (l : Link) (b : Byte) : (s.firstByte l b).sessions = s.sessions := by
  simp only [State.firstByte]
  repeat' split
  all_goals simp

@[simp] theorem State.sessions_moreBytes (l : Link) (bs : List Byte) : (s.moreBytes l bs).sessions = s.sessions := by
  simp only [State.moreBytes]
  repeat' split
  all_goals simp

theorem State.noneGained_clearedLink (l : Link) (drop : Bool) : s.NoneGained (s.clearedLink l drop) := by
  simp only [State.clearedLink]
  split
  · refine (s.noneGained_setLink l _).trans (State.noneGained_foldl _ (fun u n => ?_) _)
    split
    · exact u.noneGained_lapseSession n
    · exact .refl u
  · exact s.noneGained_setLink l _

theorem State.noneGained_riseLink (l : Link) : s.NoneGained (s.riseLink l) := by
  have hend (u : State) : u.NoneGained (u.endTransaction l) := u.noneGained_setLink l _
  have hset (p : LinkPort) : s.NoneGained ((s.setLink l p).endTransaction l) := (s.noneGained_setLink l p).trans (hend _)
  have hclear (drop : Bool) : s.NoneGained ((s.clearedLink l drop).endTransaction l) :=
    (s.noneGained_clearedLink l drop).trans (hend _)
  simp only [State.riseLink]
  split
  · exact .refl s
  · split
    · exact hset _
    all_goals exact hend s
  · exact hset _
  · split
    · exact hset _
    · exact hend s
  · exact hend s
  · split
    · exact hclear false
    · split
      · exact hclear true
      · exact hend s
  · exact hend s
  · exact hend s

theorem State.noneGained_transact (row : TransactionRow) (l : Link) (m : Moment) : s.NoneGained (s.transact row l m) := by
  have hselect : s.NoneGained (s.selectLink l) := State.noneGained_of_eq (by simp) (s.sameTables_selectLink l).leases
  have hfirst (u : State) (b : Byte) : u.NoneGained (u.firstByte l b) :=
    State.noneGained_of_eq (by simp) (u.sameTables_firstByte l b).leases
  have hmore (u : State) (bs : List Byte) : u.NoneGained (u.moreBytes l bs) :=
    State.noneGained_of_eq (by simp) (u.sameTables_moreBytes l bs).leases
  cases m with
  | select => exact hselect
  | whole b rest =>
    simp only [State.transact, State.wholeTransaction]
    split
    · exact ((hselect.trans (hfirst _ b)).trans (hmore _ rest)).trans (State.noneGained_riseLink _ l)
    · exact .refl s
  | first b =>
    simp only [State.transact]
    split
    · exact hfirst s b
    · exact .refl s
  | more bs =>
    simp only [State.transact]
    split
    · exact hmore s bs
    · exact .refl s
  | rise =>
    simp only [State.transact]
    split
    · exact s.noneGained_riseLink l
    · exact .refl s

end Sys2Proof.Machine
end

section
/-! Every command's moves of sessions and holders (R125, R126, R137, R138), by which every step keeps the rules of sessions. -/

namespace Sys2Proof.Machine

open Relation

variable {s t : State} {n : SessionNo} {k : LeaseNo}

/-! ## Commands -/

/-- What a command performs, where its own checks accept it, moves sessions and holders by moves alone. -/
def MovesHolders (s : State) (p : Performed) : Prop := ∀ x, p = .ok x → s.HolderMoves x.1

section commands

variable {ps : List Byte}

theorem movesHolders_moves {resp : Response} (h : s.HolderMoves t) : MovesHolders s (.ok (t, resp)) := by
  rintro _ ⟨⟩
  exact h

theorem movesHolders_ok {resp : Response} (h : s.NoneGained t) : MovesHolders s (.ok (t, resp)) := movesHolders_moves h.moves

/-- A check passed before the effect: what follows may use what it answered. -/
theorem movesHolders_bind {α : Type} {x : Except Reject α} {f : α → Performed} (h : ∀ a, x = .ok a → MovesHolders s (f a)) :
    MovesHolders s (x >>= f) := fun y hy => by
  obtain ⟨a, ha, hf⟩ := bind_eq_ok.1 hy
  exact h a ha y hf

/-- A command's own checks run for a session whose record is not FREE (R163). -/
theorem State.holderMoves_takeSession {c : Command} {perform : State → SessionNo → List Byte → Performed}
    (hp : ∀ (u : State) (n : SessionNo) ps, u.sessions[n].isSome = true → MovesHolders u (perform u n ps)) :
    s.HolderMoves (s.takeSession c perform) := by
  unfold State.takeSession
  split
  · exact .refl
  split
  · rename_i l f _ _
    refine ReflTransGen.trans ?_ (State.noneGained_place _ _ _).moves
    unfold State.serveSession
    split
    · exact .refl
    · rename_i n hn
      have hsome : (s.renewed n).sessions[n].isSome = true := by
        obtain ⟨_, -, hchecks⟩ := bind_eq_ok.1 hn
        obtain ⟨m, -, hrecord⟩ := bind_eq_ok.1 hchecks
        obtain ⟨r, hr, hlink⟩ := bind_eq_ok.1 hrecord
        obtain ⟨_, -, hallowed⟩ := bind_eq_ok.1 hlink
        obtain ⟨_, -, hmn⟩ := bind_eq_ok.1 hallowed
        cases hmn
        rw [State.session_renewed (need_eq_ok.1 hr)]
        rfl
      refine (s.noneGained_renewed n).moves.trans ?_
      cases hperform : perform (s.renewed n) n f.params with
      | error e => exact .refl
      | ok x => exact hp _ _ _ hsome x hperform
  · exact .refl

/-- An OPEN SESSION that passes its checks opens a FREE record, a supervisor's on Link B and where there is none (R125,
R126). -/
theorem movesHolders_openSession (l : Link) : MovesHolders s (performOpenSession s l ps) :=
  movesHolders_bind fun q _ => movesHolders_bind fun _ hlink => movesHolders_bind fun _ hone => movesHolders_bind fun m hm => by
    refine movesHolders_moves (.single (.opened (by simpa using List.find?_some (need_eq_ok.1 hm)) fun hcls => ?_))
    have hordinary : (q.cls == .ordinary) = false := by rw [show q.cls = .supervisor from hcls]; rfl
    rw [check_eq_ok, hordinary, Bool.false_or] at hlink hone
    exact ⟨beq_iff_eq.1 hlink, Option.isNone_iff_eq_none.1 hone⟩

theorem State.holderMoves_takeOpenSession : s.HolderMoves s.takeOpenSession := by
  unfold State.takeOpenSession
  split
  · exact .refl
  split
  · rename_i l f _ _
    refine ReflTransGen.trans ?_ (State.noneGained_place _ _ _).moves
    cases hp : (do checkLength .openSession f; performOpenSession s l f.params : Performed) with
    | error e => exact .refl
    | ok x => exact movesHolders_bind (fun _ _ => movesHolders_openSession l) x hp
  · exact .refl

theorem State.noneGained_takeBadCommand (s : State) : s.NoneGained s.takeBadCommand := by
  unfold State.takeBadCommand
  split
  · exact .refl s
  · split
    · exact .refl s
    · exact s.noneGained_place _ _

/-- A CLAIM gives a FREE lease to a session below its quota (R28, R37). -/
theorem movesHolders_claim (hsome : s.sessions[n].isSome = true) : MovesHolders s (performClaimCommand s n ps) :=
  movesHolders_bind fun q _ => movesHolders_bind fun k _ => movesHolders_bind fun _ hquota => movesHolders_bind fun _ _ =>
    movesHolders_bind fun _ _ => movesHolders_bind fun _ _ => movesHolders_bind fun _ _ => movesHolders_bind fun _ _ =>
      movesHolders_bind fun _ _ => movesHolders_bind fun placed _ => by
        obtain ⟨r, hr⟩ := Option.isSome_iff_exists.1 hsome
        refine movesHolders_moves (.single (.given (k := k) (by simp) (fun j hj => by simp [Fin.val_ne_of_ne hj]) hr ?_
          fun m hm => ?_))
        · simpa [hr, -Fin.getElem_fin] using check_eq_ok.1 hquota
        · rw [Fin.getElem_fin, State.leases_performClaim, if_pos rfl] at hm
          exact (beq_iff_eq.1 hm).symm

theorem movesHolders_amend : MovesHolders s (performAmend s n ps) := fun x hx => by
  obtain ⟨k, r, staged, hfits, heq⟩ := performAmend_ok s (t := x.1) (resp := x.2) hx
  rw [heq]
  exact (State.noneGained_of_put (x' := { r with phase := .amendPending staged }) hfits.lease rfl (by simp)
    fun j => by simp only [Fin.getElem_fin, State.leases_stageChange, Fin.ext_iff]).moves

theorem movesHolders_retire : MovesHolders s (performRetire s n ps) :=
  movesHolders_bind fun _ _ => movesHolders_bind fun _ _ => movesHolders_bind fun m _ => movesHolders_bind fun _ hr =>
    movesHolders_ok (State.noneGained_retireLease (checkPhase_eq_ok.1 hr).1 m)

theorem movesHolders_clearTrip : MovesHolders s (performClearTrip s n ps) :=
  movesHolders_bind fun _ _ => movesHolders_bind fun _ _ => movesHolders_bind fun _ hr =>
    movesHolders_ok (State.noneGained_clearLease (checkPhase_eq_ok.1 hr).1)

theorem movesHolders_retune : MovesHolders s (performRetune s n ps) :=
  movesHolders_bind fun tb _ => movesHolders_bind fun _ _ => movesHolders_bind fun _ _ => movesHolders_bind fun _ _ =>
    movesHolders_bind fun _ _ => movesHolders_ok (s.noneGained_setTimebase tb _)

/-- ADOPT gives a lease to a session below its quota, once the notice is recorded for the one that held it (R137, R138). -/
theorem movesHolders_adopt (hsome : s.sessions[n].isSome = true) : MovesHolders s (performAdopt s n ps) :=
  movesHolders_bind fun k _ => movesHolders_bind fun _ _ => movesHolders_bind fun x _ => movesHolders_bind fun _ hquota => by
    obtain ⟨r, hr⟩ := Option.isSome_iff_exists.1 hsome
    have hgiven : State.HolderMove s (s.putLease k (some { x with holder := n })) := by
      refine .given (k := k) (by simp) (fun j hj => by simp [Fin.val_ne_of_ne hj]) hr ?_ fun m hm => ?_
      · rw [check_eq_ok, bne_iff_ne, State.quotaOf, hr] at hquota
        exact hquota
      · rw [Fin.getElem_fin, State.leases_putLease, if_pos rfl] at hm
        exact (beq_iff_eq.1 hm).symm
    refine movesHolders_moves ((ReflTransGen.single hgiven).tail (.noneGained (State.noneGained_of_rel (fun m => ?_)
      fun j m hj => ?_)))
    · rw [State.putLease_sessions, State.putLease_sessions]
      exact s.sameTerms_setSession_map (fun y => y.sameTerms_notices _) x.holder m
    · simpa only [Fin.getElem_fin, State.leases_putLease, State.recordFor_leases] using hj

theorem movesHolders_readNotices : MovesHolders s (performReadNotices s n ps) := by
  unfold performReadNotices
  split
  · exact movesHolders_ok (.refl s)
  · rename_i r hr
    exact movesHolders_ok (s.noneGained_setSession hr (r.sameTerms_notices _))

theorem movesHolders_readFaults : MovesHolders s (performReadFaults s n ps) :=
  movesHolders_bind fun _ _ => movesHolders_ok (s.noneGained_setTrip _)

theorem movesHolders_releaseHalt : MovesHolders s (performReleaseHalt s n ps) :=
  movesHolders_bind fun _ _ => movesHolders_ok (s.noneGained_setTrip _)

theorem movesHolders_haltAll : MovesHolders s (performHaltAll s n ps) :=
  movesHolders_bind fun _ _ => by
    split
    · exact movesHolders_ok (.refl s)
    · exact movesHolders_ok ((s.noneGained_setTrip _).trans (State.noneGained_takeTrip _ _ _))

theorem movesHolders_queryLease : MovesHolders s (performQueryLease s n ps) :=
  movesHolders_bind fun _ _ => movesHolders_bind fun _ _ => by
    split
    · exact movesHolders_ok (.refl s)
    · exact movesHolders_bind fun _ _ => movesHolders_ok (.refl s)

theorem movesHolders_setPinRest : MovesHolders s (performSetPinRest s n ps) :=
  movesHolders_bind fun _ _ => movesHolders_bind fun _ _ => movesHolders_bind fun _ _ =>
    movesHolders_ok (State.noneGained_of_eq rfl rfl)

theorem movesHolders_setCarrier : MovesHolders s (performSetCarrier s n ps) :=
  movesHolders_bind fun _ _ => movesHolders_bind fun c _ => movesHolders_bind fun _ _ => movesHolders_bind fun _ _ =>
    movesHolders_ok (s.noneGained_setCarrierUnit c _)

theorem movesHolders_setFaultEdge : MovesHolders s (performSetFaultEdge s n ps) :=
  movesHolders_bind fun _ _ => movesHolders_bind fun i _ => movesHolders_bind fun e _ => movesHolders_bind fun _ _ =>
    movesHolders_ok (s.noneGained_selectEdge i e)

theorem movesHolders_setSupplyLevel : MovesHolders s (performSetSupplyLevel s n ps) :=
  movesHolders_bind fun _ _ => movesHolders_bind fun _ _ =>
    movesHolders_ok ((s.noneGained_setTrip _).trans (State.noneGained_compareSupply _))

end commands

/-! ## A step -/

theorem State.holderMoves_happen {f : State → State} (hf : s.HolderMoves (f s)) (h : s.happen f = .next t) :
    s.HolderMoves t := by
  cases hheld : s.resetHeld with
  | true =>
    rw [State.happen_held f hheld] at h
    cases h
    exact .refl
  | false =>
    rw [State.happen_free f hheld] at h
    cases h
    exact hf.tail (.noneGained (State.noneGained_refresh _))

/-- The moves of one command: OPEN SESSION, CLAIM and ADOPT alone open a session or give a lease to one. -/
theorem exec_holderMoves {i : Instr} (h : exec i s = .next t) : s.HolderMoves t := by
  have served {c : Command} {perform : State → SessionNo → List Byte → Performed}
      (hp : ∀ (u : State) (n : SessionNo) ps, u.sessions[n].isSome = true → MovesHolders u (perform u n ps)) :
      (s.happen fun s => s.takeSession c perform) = .next t → s.HolderMoves t :=
    State.holderMoves_happen (f := fun s => s.takeSession c perform) (State.holderMoves_takeSession hp)
  have query {c : Command} {perform : State → SessionNo → List Byte → Performed}
      (hp : ∀ u n ps v resp, perform u n ps = .ok (v, resp) → v = u) :
      (s.happen fun s => s.takeSession c perform) = .next t → s.HolderMoves t :=
    served fun u n ps _ x hx => hp u n ps x.1 x.2 hx ▸ .refl
  have happened {f : State → State} (hf : s.NoneGained (f s)) : s.happen f = .next t → s.HolderMoves t :=
    State.holderMoves_happen hf.moves
  cases i with
  | openSession => exact State.holderMoves_happen State.holderMoves_takeOpenSession h
  | renew => exact served (fun u _ _ _ => movesHolders_ok (.refl u)) h
  | closeSession => exact served (fun u n _ _ => movesHolders_ok (u.noneGained_closeSession n)) h
  | claim => exact served (fun _ _ _ => movesHolders_claim) h
  | amend => exact served (fun _ _ _ _ => movesHolders_amend) h
  | retire => exact served (fun _ _ _ _ => movesHolders_retire) h
  | clearTrip => exact served (fun _ _ _ _ => movesHolders_clearTrip) h
  | retune => exact served (fun _ _ _ _ => movesHolders_retune) h
  | adopt => exact served (fun _ _ _ => movesHolders_adopt) h
  | readNotices => exact served (fun _ _ _ _ => movesHolders_readNotices) h
  | readFaults => exact served (fun _ _ _ _ => movesHolders_readFaults) h
  | querySession => exact query (fun _ _ _ _ _ => need_bind_ok) h
  | queryLease => exact served (fun _ _ _ _ => movesHolders_queryLease) h
  | queryTimebase => exact query (fun _ _ _ _ _ => need_bind_ok) h
  | findByPin => exact query (fun _ _ _ _ _ => need_bind_ok) h
  | listLeases => exact query (fun _ _ _ _ _ => need_bind_ok) h
  | setPinRest => exact served (fun _ _ _ _ => movesHolders_setPinRest) h
  | setCarrier => exact served (fun _ _ _ _ => movesHolders_setCarrier) h
  | setFaultEdge => exact served (fun _ _ _ _ => movesHolders_setFaultEdge) h
  | setSupplyLevel => exact served (fun _ _ _ _ => movesHolders_setSupplyLevel) h
  | haltAll => exact served (fun _ _ _ _ => movesHolders_haltAll) h
  | releaseHalt => exact served (fun _ _ _ _ => movesHolders_releaseHalt) h
  | badCommand => exact happened s.noneGained_takeBadCommand h
  | commandFrame l m | fetch l m | clearLink l m | ignoredTransaction l m =>
    cases h
    exact ((s.noneGained_transact _ l m).trans (State.noneGained_refresh _)).moves
  | count tb =>
    simp only [exec, execCount] at h
    refine happened ?_ h
    repeat' split
    · exact .refl s
    · exact .refl s
    · exact s.noneGained_takeBoundary tb _
    · exact s.noneGained_setTimebase tb _
  | boundary tb =>
    simp only [exec, execBoundary] at h
    refine happened ?_ h
    repeat' split
    · exact .refl s
    · exact .refl s
    · exact s.noneGained_takeBoundary tb _
    · exact .refl s
  | startBoundary tb =>
    simp only [exec, execStartBoundary] at h
    refine happened ?_ h
    repeat' split
    · exact .refl s
    · exact s.noneGained_takeBoundary tb _
    · exact .refl s
  | carrierEdge c =>
    simp only [exec, execCarrierEdge] at h
    refine happened ?_ h
    split
    · exact .refl s
    · exact s.noneGained_setCarrierUnit c _
  | tick who =>
    simp only [exec, execTick] at h
    refine happened ?_ h
    cases who with
    | none => exact s.noneGained_foldl (fun u n => u.noneGained_timerHappening n) _
    | some n => exact s.noneGained_timerHappening n
  | lapse n =>
    refine happened ?_ h
    split
    · exact s.noneGained_lapseSession n
    · exact .refl s
  | holdExpiry n =>
    refine happened ?_ h
    split
    · exact s.noneGained_closeSession n
    · exact .refl s
  | faultInputChange i level =>
    cases h
    exact (s.noneGained_setInput i _).moves
  | faultEdge i =>
    simp only [exec, execFaultEdge] at h
    refine happened ?_ h
    split
    · exact (s.noneGained_setInput i _).trans (State.noneGained_setInputLatch _ i)
    · exact .refl s
  | faultRelease i =>
    simp only [exec, execFaultRelease] at h
    refine happened ?_ h
    split
    · exact s.noneGained_setInput i _
    · exact .refl s
  | supplyFall mv =>
    have hset := s.noneGained_setSupply mv
    simp only [exec, execSupplyFall] at h
    repeat' split at h
    all_goals cases h
    · exact (hset.trans (State.noneGained_fullReset _)).moves
    · exact hset.moves
    · exact ((hset.trans (State.noneGained_supplyFell _)).trans (State.noneGained_refresh _)).moves
    · exact .refl
  | supplyRise mv =>
    have hset := s.noneGained_setSupply mv
    simp only [exec, execSupplyRise] at h
    repeat' split at h
    all_goals cases h
    · exact hset.moves
    · exact ((hset.trans (State.noneGained_supplyRose _)).trans (State.noneGained_refresh _)).moves
    · exact .refl
  | fullReset cause =>
    have hreset (u : State) (hu : s.NoneGained u) : s.HolderMoves u.fullReset := (hu.trans u.noneGained_fullReset).moves
    cases cause with
    | rstn lowNs =>
      simp only [exec, execFullReset] at h
      split at h <;> cases h
      · exact .refl
      · exact hreset _ (s.noneGained_setRstn .low)
    | powerOn =>
      cases h
      exact hreset s (.refl s)
    | supply mv =>
      simp only [exec, execFullReset] at h
      split at h <;> cases h
      · exact hreset _ (s.noneGained_setSupply mv)
      · exact .refl
  | resetRelease =>
    simp only [exec, execResetRelease] at h
    repeat' split at h
    all_goals cases h
    · exact (((s.noneGained_setRstn .high).trans (State.noneGained_releaseReset _)).trans (State.noneGained_refresh _)).moves
    · exact (s.noneGained_setRstn .high).moves
    · exact .refl

theorem State.HolderMoves.rules (hm : s.HolderMoves t) (hs : s.SessionRules) : t.SessionRules := by
  induction hm with
  | refl => exact hs
  | tail _ hm ih => exact hm.rules ih

/-- Settles O57: each move of sessions and holders keeps the rules, so every step does. -/
theorem stepsKeepTheSessionRules : Obligations.StepsKeepTheSessionRules := by
  unfold Obligations.StepsKeepTheSessionRules
  intro s t hone hholdings hstep
  have hrules : t.SessionRules := by
    unfold step at hstep
    split at hstep
    · cases hstep
      exact ⟨hone, hholdings⟩
    · exact (exec_holderMoves hstep).rules ⟨hone, hholdings⟩
  exact ⟨hrules.one, hrules.holdings⟩

end Sys2Proof.Machine
end

section
/-! OPEN SESSION (R125, R126): its own checks in order, and the record it fills. -/

namespace Sys2Proof.Machine

variable {s : State} {l : Link} {ps : List Byte} {cls : SessionClass} {mask : KindSet} {n : SessionNo}

/-! ## The request (R125, step 1) -/

/-- The request that the fields of an OPEN SESSION spell. -/
def openRequest (ps : List Byte) (cls : SessionClass) (mask : KindSet) : OpenRequest :=
  { cls := cls, interval := arg ps 1, quota := arg ps 2, mask := mask }

theorem readOpenRequest_eq_some {q : OpenRequest} :
    readOpenRequest ps = some q ↔ OpenFields ps q.cls q.mask ∧ q = openRequest ps q.cls q.mask := by
  unfold readOpenRequest OpenFields openRequest
  cases hcls : SessionClass.ofCode (arg ps 0) with
  | none => simp
  | some cls =>
    cases hmask : KindSet.ofNat (arg ps 3) with
    | none => simp
    | some mask =>
      simp only [bind, Option.bind, Option.ite_none_right_eq_some, Option.some.injEq]
      constructor
      · rintro ⟨⟨hinterval, hlow, hhigh⟩, rfl⟩
        exact ⟨⟨rfl, hinterval, hlow, hhigh, rfl⟩, rfl⟩
      · rintro ⟨⟨rfl, hinterval, hlow, hhigh, rfl⟩, hq⟩
        exact ⟨⟨hinterval, hlow, hhigh⟩, hq.symm⟩

theorem readOpenRequest_ok (h : OpenFields ps cls mask) : readOpenRequest ps = some (openRequest ps cls mask) :=
  readOpenRequest_eq_some.2 ⟨h, rfl⟩

theorem readOpenRequest_none (h : ∀ cls mask, ¬ OpenFields ps cls mask) : readOpenRequest ps = none :=
  Option.eq_none_iff_forall_ne_some.2 fun q hq => h q.cls q.mask (readOpenRequest_eq_some.1 hq).1

/-! ## The class and the record (R125, steps 2 to 4) -/

/-- A supervisor is asked for on Link B and where there is none; an ordinary session anywhere. -/
def State.MayOpen (s : State) (cls : SessionClass) (l : Link) : Prop :=
  cls = .supervisor → l = .b ∧ ∀ m, s.isSupervisor m = false

theorem State.MayOpen.link (h : s.MayOpen cls l) : (cls == .ordinary || l == .b) = true := by
  cases cls with
  | ordinary => rfl
  | supervisor => rw [(h rfl).1]; rfl

theorem State.MayOpen.one (h : s.MayOpen cls l) : (cls == .ordinary || s.supervisor.isNone) = true := by
  cases cls with
  | ordinary => rfl
  | supervisor => rw [State.supervisor_eq_none.2 (h rfl).2]; rfl

theorem State.lowestFreeSession_eq_some (hn : s.sessions[n] = none) (hb : ∀ m : SessionNo, m < n → s.sessions[m] ≠ none) :
    s.lowestFreeSession = some n :=
  find_finRange_some (by rw [hn]; rfl) fun m hm => by rw [Option.isNone_eq_false_iff, Option.isSome_iff_ne_none]; exact hb m hm

theorem State.lowestFreeSession_eq_none (h : ∀ m : SessionNo, s.sessions[m] ≠ none) : s.lowestFreeSession = none :=
  find_finRange_none fun m => by rw [Option.isNone_eq_false_iff, Option.isSome_iff_ne_none]; exact h m

theorem State.supervisor_eq_some (hn : s.isSupervisor n = true) (hb : ∀ m, m < n → s.isSupervisor m = false) :
    s.supervisor = some n := find_finRange_some hn hb

/-! ## The checks in order -/

/-- What an OPEN SESSION answers: its class, link and fields as accepted (R126, R171). -/
def openAnswer (n : SessionNo) (cls : SessionClass) (l : Link) (ps : List Byte) (mask : KindSet) : Response :=
  goodResponse [byte n.val, cls.code, linkCode l, byte (arg ps 1), byte (arg ps 2), mask.toByte]

theorem performOpenSession_ok (hf : OpenFields ps cls mask) (hmay : s.MayOpen cls l) (hn : s.lowestFreeSession = some n) :
    performOpenSession s l ps
      = .ok (s.setSession n (some ((openRequest ps cls mask).record l)), openAnswer n cls l ps mask) := by
  simp only [performOpenSession, readOpenRequest_ok hf, need_some, openRequest, hmay.link, hmay.one, check_ok, hn, bind,
    Except.bind]
  rfl

/-- Where OPEN SESSION is refused: at the first of its own checks that fails, with its status and detail (R125). -/
def State.OpenRefused (s : State) (l : Link) (ps : List Byte) (status : Status) (detail : Byte) : Prop :=
  ((∀ cls mask, ¬ OpenFields ps cls mask) ∧ status = .badArgument ∧ detail = 0xFF)
  ∨ (∃ mask, OpenFields ps .supervisor mask ∧ l ≠ .b ∧ status = .wrongLink ∧ detail = 0)
  ∨ (∃ mask, ∃ m : SessionNo, OpenFields ps .supervisor mask ∧ l = .b ∧ s.isSupervisor m = true
      ∧ (∀ j, j < m → s.isSupervisor j = false) ∧ status = .supervisorExists ∧ detail = byte m.val)
  ∨ (∃ cls mask, OpenFields ps cls mask ∧ s.MayOpen cls l ∧ (∀ m : SessionNo, s.sessions[m] ≠ none)
      ∧ status = .noSessionSpace ∧ detail = 0)

theorem performOpenSession_refuses {status : Status} {detail : Byte} (h : s.OpenRefused l ps status detail) :
    performOpenSession s l ps = .error { status := status, detail := detail } := by
  obtain ⟨hnone, rfl, rfl⟩ | ⟨mask, hf, hl, rfl, rfl⟩ | ⟨mask, m, hf, rfl, hm, hb, rfl, rfl⟩
    | ⟨cls, mask, hf, hmay, hfull, rfl, rfl⟩ := h
  · simp only [performOpenSession, readOpenRequest_none hnone, need_none, bind, Except.bind]
  · have hlink : ¬ ((SessionClass.supervisor == .ordinary || l == .b) = true) := by simpa using hl
    simp only [performOpenSession, readOpenRequest_ok hf, need_some, openRequest, check_eq_error hlink, bind, Except.bind]
  · simp only [performOpenSession, readOpenRequest_ok hf, need_some, openRequest, State.supervisor_eq_some hm hb, bind,
      Except.bind]
    rfl
  · simp only [performOpenSession, readOpenRequest_ok hf, need_some, openRequest, hmay.link, hmay.one, check_ok,
      State.lowestFreeSession_eq_none hfull, need_none, bind, Except.bind]

/-! ## The command -/

theorem State.serveOpenSession_eq (s : State) (l : Link) (hlen : ps.length = 4) :
    s.serveOpenSession l { code := Command.openSession.code, params := ps } = settleRefusal s (performOpenSession s l ps) := by
  have hcheck : checkLength .openSession { code := Command.openSession.code, params := ps } = .ok () :=
    check_eq_ok.2 (by rw [hlen]; rfl)
  rw [State.serveOpenSession, hcheck]
  rfl

/-- An OPEN SESSION that the executor chooses answers from what its own checks and effect leave (R125, R162). -/
theorem exec_openSession (hheld : s.resetHeld = false)
    (hchosen : s.chosen = some (l, { code := Command.openSession.code, params := ps })) (hlen : ps.length = 4) :
    exec .openSession s = .next ((settleRefusal s (performOpenSession s l ps)).1.place l
      (settleRefusal s (performOpenSession s l ps)).2).refresh := by
  rw [exec, execOpenSession, State.happen_free _ hheld, State.takeOpenSession_chosen hchosen rfl,
    State.serveOpenSession_eq s l hlen]

/-- Settles O11: the checks pass, so the record found FREE is filled. -/
theorem openSessionTakesTheLowestFreeRecord : Obligations.OpenSessionTakesTheLowestFreeRecord := by
  unfold Obligations.OpenSessionTakesTheLowestFreeRecord
  intro s l ps cls mask n hheld hs hchosen hlen hf hmay hn hb
  have hexec := exec_openSession hheld hchosen hlen
  rw [performOpenSession_ok hf hmay (State.lowestFreeSession_eq_some hn hb)] at hexec
  refine ⟨_, hexec, ?_, fun j hj => ?_, ?_, ?_, ?_, ?_⟩
  · rw [State.refresh_sessions, State.place_sessions]
    exact s.session_setSession n _
  · rw [State.refresh_sessions, State.place_sessions]
    exact s.session_setSession_other _ hj
  · exact State.answered_of_kept l _ (by simp [settleRefusal]) (by simp [settleRefusal]) (by simp [settleRefusal])
      (by simp [settleRefusal]) (by simp [settleRefusal]) (by simp [settleRefusal])
  · exact State.leasesKept_of_tables (by simp [settleRefusal])
  · exact State.outputsKept_of_tables hs (by simp [settleRefusal])
  · constructor <;> simp [settleRefusal]

/-- Settles O12: the first check that fails refuses, and a refusal moves nothing. -/
theorem openSessionRefusesInOrder : Obligations.OpenSessionRefusesInOrder := by
  unfold Obligations.OpenSessionRefusesInOrder
  intro s l ps status detail hheld hs hchosen hlen hrefused
  have hexec := exec_openSession hheld hchosen hlen
  rw [performOpenSession_refuses hrefused] at hexec
  obtain ⟨hanswered, hleases, houtputs, htrip⟩ := State.placed_refusal (n := 0) hs (.inl rfl) l
    { status := status, detail := detail, data := [] }
  exact ⟨_, hexec, hanswered, by simp [settleRefusal], hleases, houtputs, htrip⟩

end Sys2Proof.Machine
end

section
/-! RENEW (R128, R129): what it leaves of the sessions. -/

namespace Sys2Proof.Machine

variable {s : State} {l : Link} {ps : List Byte} {n : SessionNo} {r : SessionRecord}

/-- The session of a command that a LAPSED one may not send is OPEN (R133). -/
theorem State.Serves.opened {c : Command} (h : s.Serves c l ps n r) (hc : c.lapsedMay = false) :
    ∃ x, r.status = .opened x := by
  have hallowed := h.allowed
  cases hstatus : r.status with
  | opened x => exact ⟨x, rfl⟩
  | lapsed x => rw [hstatus, Command.allowedIn, hc] at hallowed; cases hallowed

theorem SessionRecord.renewed_opened {x : Nat} (h : r.status = .opened x) :
    r.renewed = { r with status := .opened r.interval } := by
  rw [SessionRecord.renewed, h]

theorem performRenew_ok (h : s.Serves .renew l ps n r) : performRenew (s.renewed n) n ps
    = .ok (s.renewed n, goodResponse [byte n.val, byte r.interval, byte (s.heldCount n)]) := by
  obtain ⟨x, hx⟩ := h.opened rfl
  rw [performRenew, State.intervalOf, State.session_renewed h.record, SessionRecord.renewed_opened hx]
  rfl

/-- Settles O13: the command performs nothing beyond the renewal of its session. -/
theorem renewReloadsTheRemainingTime : Obligations.RenewReloadsTheRemainingTime := by
  unfold Obligations.RenewReloadsTheRemainingTime
  intro s l ps n r h hs
  obtain ⟨x, hx⟩ := h.opened rfl
  obtain ⟨hanswered, ⟨hself, hothers⟩, hleases, houtputs, htrip⟩ := State.answeredAlone_renewed h hs
    (goodResponse [byte n.val, byte r.interval, byte (s.heldCount n)])
  rw [SessionRecord.renewed_opened hx] at hself
  exact ⟨_, State.happen_served h (performRenew_ok h), hanswered, hself, hothers, hleases, houtputs, htrip⟩

end Sys2Proof.Machine
end

section
/-! A lease that changes hands, and ADOPT (R137, R138). -/

namespace Sys2Proof.Machine

variable {s t : State} {l : Link} {ps : List Byte} {n : SessionNo} {r y : SessionRecord} {k : LeaseNo} {x : LeaseRecord}

/-! ## A lease in other hands -/

/-- A settled state keeps its outputs where the leases go on in their wiring and in what their pins show. -/
theorem State.outputsKept_of_shown (hs : s.Settled) (hw : ∀ j : LeaseNo, leaseWiring t.leases[j] = leaseWiring s.leases[j])
    (hshown : ∀ j : LeaseNo, leaseShown t.leases[j] = leaseShown s.leases[j]) (ht : t.timebases = s.timebases)
    (hc : ∀ c, t.carrier c = s.carrier c) (he : t.engines = s.engines) (hp : t.pins = s.pins) : s.OutputsKept t.refresh := by
  have hnow (e : Engine) : t.engineNow e = s.engineNow e := by
    cases e <;> simp only [State.engineNow, State.engineOutput, State.counterOf_of_wiring (hw _) ht, hc]
  refine ⟨table_ext fun c => ?_, State.pins_refresh_of_shown hs hp hshown fun c => by rw [hnow, he]⟩
  rw [Fin.getElem_fin, State.engines_refresh, hnow, he]
  exact State.engineNow_settled hs c

/-- What a table reads of a lease other than its holder is as before when the lease changes hands. -/
theorem State.lease_putHolder {α : Type} {f : Lease → α} (hx : s.leases[k] = some x)
    (hf : f (some { x with holder := n }) = f (some x)) (j : LeaseNo) :
    f (s.putLease k (some { x with holder := n })).leases[j] = f s.leases[j] := by
  rw [Fin.getElem_fin, State.leases_putLease]
  split
  · rename_i hj
    obtain rfl := Fin.ext hj
    rw [hx, hf]
  · rfl

theorem State.timebases_putHolder (hx : s.leases[k] = some x) :
    (s.putLease k (some { x with holder := n })).timebases = s.timebases := State.timebases_putLease hx rfl

theorem State.carrier_putHolder (hx : s.leases[k] = some x) (c : Carrier) :
    (s.putLease k (some { x with holder := n })).carrier c = s.carrier c := by
  have hsame : leaseUses (some { x with holder := n }) c = leaseUses (some x) c := by
    simp only [leaseUses, LeaseRecord.uses, LeaseRecord.stagedAt]
  have huses : carrierUses (s.putLease k (some { x with holder := n })).leases c = carrierUses s.leases c :=
    carrierUses_congr fun j => State.lease_putHolder (f := fun l => leaseUses l c) hx hsame j
  rw [State.putLease, State.leases_setLeases] at huses
  rw [State.putLease, State.carrier_setLeases, huses, CarrierUnit.recount_same]

theorem State.heldCount_putHolder (hx : s.leases[k] = some x) (m : SessionNo) :
    (s.putLease k (some { x with holder := n })).heldCount m + (x.holder == m).toNat
      = s.heldCount m + (n == m).toNat := by
  have hothers (j : LeaseNo) (hj : j ≠ k) : (s.putLease k (some { x with holder := n })).leases[j] = s.leases[j] := by
    simp [Fin.val_ne_of_ne hj]
  have hafter : heldBy (s.putLease k (some { x with holder := n })).leases[k] m = (n == m) := by
    rw [Fin.getElem_fin, State.leases_putLease, if_pos rfl, heldBy]
  have hbefore : heldBy s.leases[k] m = (x.holder == m) := by rw [hx, heldBy]
  rw [← hafter, ← hbefore]
  exact State.heldCount_of_others hothers m

theorem State.carrier_renewed (n : SessionNo) (c : Carrier) : (s.renewed n).carrier c = s.carrier c := by
  cases c <;> simp [State.carrier]

theorem State.heldCount_of_leases (h : t.leases = s.leases) (m : SessionNo) : t.heldCount m = s.heldCount m := by
  rw [State.heldCount, State.heldCount, h]

/-! ## ADOPT (R137, R138) -/

/-- What an accepted ADOPT leaves: the notice recorded for the session that held the lease, and the lease in other hands. -/
def State.adopt (s : State) (n : SessionNo) (k : LeaseNo) (x : LeaseRecord) : State :=
  (s.recordFor x.holder k { KindSet.empty with adopted := true }).putLease k (some { x with holder := n })

theorem State.lease_adopt (j : LeaseNo) :
    (s.adopt n k x).leases[j] = if j = k then some { x with holder := n } else s.leases[j] := by
  rw [State.adopt, Fin.getElem_fin, State.leases_putLease, State.recordFor_leases]
  simp only [Fin.ext_iff, eq_comm, Fin.getElem_fin]

theorem State.read_adopt {α : Type} {f : Lease → α} (hx : s.leases[k] = some x)
    (hf : f (some { x with holder := n }) = f (some x)) (j : LeaseNo) : f (s.adopt n k x).leases[j] = f s.leases[j] := by
  rw [State.adopt, State.lease_putHolder (by rw [State.recordFor_leases, hx]) hf, State.recordFor_leases]

theorem State.session_adopt (hy : s.sessions[x.holder] = some y) : (s.adopt n k x).sessions[x.holder]
    = some { y with
        notices := putAt y.notices k (y.notices[k].union (KindSet.inter { KindSet.empty with adopted := true } y.mask)) } := by
  rw [State.adopt, State.putLease_sessions, State.recordFor, State.session_setSession, hy, Option.map_some]

theorem State.session_adopt_other {j : SessionNo} (hj : j ≠ x.holder) : (s.adopt n k x).sessions[j] = s.sessions[j] := by
  rw [State.adopt, State.putLease_sessions, State.recordFor, State.session_setSession_other _ _ hj]

theorem State.heldCount_adopt (hx : s.leases[k] = some x) (hn : x.holder ≠ n) :
    (s.adopt n k x).heldCount n = s.heldCount n + 1 ∧ (s.adopt n k x).heldCount x.holder + 1 = s.heldCount x.holder := by
  have hcount (m : SessionNo) : (s.adopt n k x).heldCount m + (x.holder == m).toNat = s.heldCount m + (n == m).toNat := by
    rw [State.adopt, State.heldCount_putHolder (by rw [State.recordFor_leases, hx]),
      State.heldCount_of_leases (s.recordFor_leases x.holder k _)]
  have hself := hcount n
  have hother := hcount x.holder
  rw [beq_false_of_ne hn, beq_self_eq_true, Bool.toNat_true, Bool.toNat_false] at hself
  rw [beq_self_eq_true, beq_false_of_ne hn.symm, Bool.toNat_true, Bool.toNat_false] at hother
  exact ⟨by omega, by omega⟩

theorem State.timebases_adopt (hx : s.leases[k] = some x) : (s.adopt n k x).timebases = s.timebases := by
  rw [State.adopt, State.timebases_putHolder (by rw [State.recordFor_leases, hx]), State.recordFor_timebases]

theorem State.carrier_adopt (hx : s.leases[k] = some x) (c : Carrier) : (s.adopt n k x).carrier c = s.carrier c := by
  rw [State.adopt, State.carrier_putHolder (by rw [State.recordFor_leases, hx])]
  cases c
  · exact s.recordFor_carrierA _ _ _
  · exact s.recordFor_carrierB _ _ _

theorem performAdopt_ok {h : Nat} (hserves : s.Serves .adopt l ps n r) (hcls : r.cls = .supervisor)
    (hk : arg ps 1 = k.val) (hx : s.leases[k] = some x) (hy : s.sessions[x.holder] = some y) (hlapsed : y.status = .lapsed h)
    (hquota : s.heldCount n ≠ r.quota) (hn : x.holder ≠ n) :
    performAdopt (s.renewed n) n ps = .ok ((s.renewed n).adopt n k x,
      goodResponse [byte k.val, x.phase.code, byte x.holder.val, x.causes.toByte, byte (s.heldCount n + 1)]) := by
  obtain ⟨x', hx'⟩ := hserves.checkAdoptable 0 (k := k)
    (.inr ⟨x, hx, .inr (.inr (.inr (.inl ⟨rfl, y, h, hy, hlapsed⟩)))⟩)
  have hlease := State.checkAdoptable_eq_ok _ hx'
  rw [State.renewed_leases, hx] at hlease
  obtain rfl : x = x' := Option.some.inj hlease
  have hkept : (s.renewed n).heldCount n = s.heldCount n := State.heldCount_of_leases (s.renewed_leases n) n
  have hbelow : ((s.renewed n).heldCount n != (s.renewed n).quotaOf n) = true := by
    rw [bne_iff_ne, hserves.quotaOf, hkept]
    exact hquota
  have hcount : ((s.renewed n).adopt n k x).heldCount n = s.heldCount n + 1 := by
    rw [(State.heldCount_adopt (by rw [State.renewed_leases, hx]) hn).1, hkept]
  rw [← hcount]
  simp only [performAdopt, readLease_ok hk, hserves.checkSupervisor hcls, hx', hbelow, check_ok, bind, Except.bind, State.adopt]

/-- Settles O15: the ADOPT passes its checks on the renewed tables, and the lease goes from the one session to the other. -/
theorem adoptChangesTheHolderAlone : Obligations.AdoptChangesTheHolderAlone := by
  unfold Obligations.AdoptChangesTheHolderAlone
  intro s l ps n r y k x h hserves hs hcls hk hx hy hlapsed hquota
  obtain ⟨m, hopened⟩ := hserves.opened rfl
  have hn : x.holder ≠ n := by
    rintro rfl
    obtain rfl : y = r := Option.some.inj (hy.symm.trans hserves.record)
    rw [hlapsed] at hopened
    cases hopened
  have hxu : (s.renewed n).leases[k] = some x := by rw [State.renewed_leases, hx]
  have hkept (m : SessionNo) : (s.renewed n).heldCount m = s.heldCount m := State.heldCount_of_leases (s.renewed_leases n) m
  obtain ⟨hself, hothers⟩ := State.renews_renewed hserves rfl
  obtain ⟨hgained, hlost⟩ := State.heldCount_adopt hxu hn
  rw [hkept] at hgained
  rw [hkept] at hlost
  refine ⟨_, State.happen_served hserves (performAdopt_ok hserves hcls hk hx hy hlapsed hquota hn), ?lease, ?leases,
    ?gained, ?lost, ?holder, ?adopter, ?sessions, ?answered, ?channels, ?timebases, ?carrierA, ?carrierB, ?outputs, ?trip⟩
  case lease => rw [State.refresh_leases, State.place_leases, State.lease_adopt, if_pos rfl]
  case leases =>
    intro j hj
    rw [State.refresh_leases, State.place_leases, State.lease_adopt, if_neg hj, State.renewed_leases]
  case gained =>
    rw [State.heldCount_of_leases (s := (s.renewed n).adopt n k x) (by rw [State.refresh_leases, State.place_leases]), hgained]
  case lost =>
    rw [State.heldCount_of_leases (s := (s.renewed n).adopt n k x) (by rw [State.refresh_leases, State.place_leases]), hlost]
  case holder =>
    rw [State.refresh_sessions, State.place_sessions, State.session_adopt (by rw [hothers _ hn, hy])]
    exact ⟨_, rfl, rfl, putAt_self _ _ _, fun j hj => putAt_other _ _ hj⟩
  case adopter => rw [State.refresh_sessions, State.place_sessions, State.session_adopt_other hn.symm, hself]
  case sessions =>
    intro j hjn hjx
    rw [State.refresh_sessions, State.place_sessions, State.session_adopt_other hjx, hothers j hjn]
  case answered =>
    exact State.answered_of_kept l _ (by simp [State.adopt]) (by simp [State.adopt]) (by simp [State.adopt])
      (by simp [State.adopt]) (by simp [State.adopt]) (by simp [State.adopt])
  case channels => simp [State.adopt]
  case timebases => rw [State.refresh_timebases, State.place_timebases, State.timebases_adopt hxu, State.renewed_timebases]
  case carrierA => simpa [State.carrier] using State.carrier_adopt hxu (n := n) .ca
  case carrierB => simpa [State.carrier] using State.carrier_adopt hxu (n := n) .cb
  case outputs =>
    refine State.outputsKept_of_shown hs (fun j => ?_) (fun j => ?_) ?_ (fun c => ?_) ?_ ?_
    · rw [State.place_leases, State.read_adopt (f := leaseWiring) (n := n) hxu rfl, State.renewed_leases]
    · rw [State.place_leases, State.read_adopt (f := leaseShown) (n := n) hxu rfl, State.renewed_leases]
    · rw [State.place_timebases, State.timebases_adopt hxu, State.renewed_timebases]
    · rw [State.carrier_place, State.carrier_adopt hxu, State.carrier_renewed]
    · simp [State.adopt]
    · simp [State.adopt]
  case trip => constructor <;> simp [State.adopt]

end Sys2Proof.Machine
end

section
/-! The session timers (R130, R131, R134): what a timer happening does to its own session, and that the eight of a tick
do not meet one another. -/

namespace Sys2Proof.Machine

variable {s t u : State} {n j : SessionNo} {r : SessionRecord} {x : Nat} {k : LeaseNo} {q : LeaseRecord}

/-! ## One timer happening (R130) -/

theorem State.timerHappening_free (hn : s.sessions[n] = none) : s.timerHappening n = s := by
  rw [State.timerHappening, hn]

theorem State.timerHappening_opened (hn : s.sessions[n] = some r) (hx : r.status = .opened x) (h : 1 < x) :
    s.timerHappening n = s.setSession n (some { r with status := .opened (x - 1) }) := by
  simp only [State.timerHappening, hn, hx, if_neg (Nat.not_le.2 h)]

theorem State.timerHappening_lapsed (hn : s.sessions[n] = some r) (hx : r.status = .lapsed x) (h : 1 < x) :
    s.timerHappening n = s.setSession n (some { r with status := .lapsed (x - 1) }) := by
  simp only [State.timerHappening, hn, hx, if_neg (Nat.not_le.2 h)]

theorem State.timerHappening_lapses (hn : s.sessions[n] = some r) (hx : r.status = .opened x) (h : x ≤ 1) :
    s.timerHappening n = s.lapseSession n := by
  simp only [State.timerHappening, hn, hx, if_pos h]

theorem State.timerHappening_closes (hn : s.sessions[n] = some r) (hx : r.status = .lapsed x) (h : x ≤ 1) :
    s.timerHappening n = s.closeSession n := by
  simp only [State.timerHappening, hn, hx, if_pos h]

/-! ## A lapse, read by session and by lease (R131) -/

/-- The record of a session once it has lapsed: LAPSED with its hold, TRIPPED recorded for its leases. -/
def SessionRecord.lapsedOver (r : SessionRecord) (leases : Vector Lease 16) (n : SessionNo) : SessionRecord :=
  { r with status := .lapsed (Config.holdIntervals * r.interval) }.recorded n leases fun k =>
    if reaches (fun q => q.holder == n) leases[k] then { KindSet.empty with tripped := true } else .empty

/-- Nothing recorded leaves a session as it was. -/
theorem SessionRecord.recorded_nothing {leases : Vector Lease 16} {kinds : LeaseNo → KindSet}
    (h : ∀ k : LeaseNo, heldBy leases[k] n = true → kinds k = .empty) : r.recorded n leases kinds = r := by
  have hsame : (r.recorded n leases kinds).notices = r.notices := table_ext fun k => by
    rw [SessionRecord.recorded, mapTable_at]
    split
    · rename_i hk
      simp [h k hk, KindSet.union, KindSet.inter, KindSet.empty]
    · rfl
  calc r.recorded n leases kinds = { r with notices := (r.recorded n leases kinds).notices } := rfl
    _ = r := by rw [hsame]

theorem State.session_lapseSession (hn : s.sessions[n] = some r) (hx : r.status = .opened x) :
    (s.lapseSession n).sessions[n] = some (r.lapsedOver s.leases n) := by
  rw [State.lapseSession_opened hn hx, State.sessions_takeTrip, State.recordNotices, mapTable_at, State.session_setSession]
  rfl

theorem State.lease_lapseSession (hn : s.sessions[n] = some r) (hx : r.status = .opened x) (k : LeaseNo) :
    (s.lapseSession n).leases[k] = s.leases[k].map fun q => if q.holder == n then q.trip .lapse else q := by
  rw [State.lapseSession_opened hn hx, Fin.getElem_fin, State.leases_takeTrip, State.setSession_leases, Fin.getElem_fin]

/-! ## What happens to one session's leases alone -/

theorem heldBy_other {l : Lease} (h : heldBy l j = true) (hj : j ≠ n) : heldBy l n = false := by
  obtain ⟨q, rfl, rfl⟩ := heldBy_iff.1 h
  exact beq_false_of_ne hj

/-- The sessions and the leases differ at most in one session and in its own leases, which go to no other. -/
structure State.ReachesAlone (s t : State) (n : SessionNo) : Prop where
  sessions : ∀ j, j ≠ n → t.sessions[j] = s.sessions[j]
  leases : ∀ k : LeaseNo, heldBy s.leases[k] n = false → t.leases[k] = s.leases[k]
  holders : ∀ k : LeaseNo, ∀ j, j ≠ n → heldBy t.leases[k] j = heldBy s.leases[k] j

theorem State.reachesAlone_setSession (r : Session) : s.ReachesAlone (s.setSession n r) n where
  sessions _ hj := State.session_setSession_other _ _ hj
  leases _ _ := rfl
  holders _ _ _ := rfl

/-- A lapse moves no lease from one session to another (R131). -/
theorem State.heldBy_lapseSession (k : LeaseNo) (j : SessionNo) :
    heldBy (s.lapseSession n).leases[k] j = heldBy s.leases[k] j := by
  rcases s.lapseSession_cases n with h | ⟨r, x, hr, hx, -⟩
  · rw [h]
  · rw [State.lease_lapseSession hr hx]
    refine heldBy_map (fun q => ?_) _ _
    split <;> rfl

theorem State.reachesAlone_lapseSession : s.ReachesAlone (s.lapseSession n) n := by
  rcases s.lapseSession_cases n with h | ⟨r, x, hr, hx, h⟩
  · rw [h]
    exact ⟨fun _ _ => rfl, fun _ _ => rfl, fun _ _ _ => rfl⟩
  · refine ⟨fun j hj => ?_, fun k hk => ?_, fun k j _ => ?_⟩
    · rw [h, State.sessions_takeTrip, State.recordNotices, mapTable_at, State.session_setSession_other _ _ hj]
      cases s.sessions[j] with
      | none => rfl
      | some q =>
        refine congrArg some (SessionRecord.recorded_nothing fun k hk => if_neg ?_)
        obtain ⟨y, hy, rfl⟩ := heldBy_iff.1 hk
        rw [hy, reaches, Option.any_some, beq_iff_eq]
        exact hj
    · rw [State.lease_lapseSession hr hx]
      cases hl : s.leases[k] with
      | none => rfl
      | some q =>
        rw [hl, heldBy] at hk
        rw [Option.map_some, hk]
        rfl
    · exact State.heldBy_lapseSession k j

theorem State.reachesAlone_closeSession : s.ReachesAlone (s.closeSession n) n := by
  refine ⟨fun j hj => ?_, fun k hk => ?_, fun k j hj => ?_⟩
  · rw [Fin.getElem_fin, State.sessions_closeSession, if_neg (Fin.val_ne_of_ne hj)]
    rfl
  · rw [Fin.getElem_fin, State.leases_closeSession, if_neg (Bool.not_eq_true _ ▸ hk)]
    rfl
  · rw [Fin.getElem_fin, State.leases_closeSession]
    split
    · rename_i hk
      exact (heldBy_other hk hj.symm).symm
    · rfl

theorem State.reachesAlone_timerHappening : s.ReachesAlone (s.timerHappening n) n := by
  rcases s.timerHappening_cases n with h | ⟨r, x, -, h, -⟩ | h | h <;> rw [h]
  · exact ⟨fun _ _ => rfl, fun _ _ => rfl, fun _ _ _ => rfl⟩
  · exact State.reachesAlone_setSession _
  · exact State.reachesAlone_lapseSession
  · exact State.reachesAlone_closeSession

/-! ## Happenings of several sessions in a row -/

/-- A session, its leases and the FREE ones are as before. -/
structure State.Spares (s t : State) (j : SessionNo) : Prop where
  session : t.sessions[j] = s.sessions[j]
  leases : ∀ k : LeaseNo, heldBy s.leases[k] j = true ∨ s.leases[k] = none → t.leases[k] = s.leases[k]
  holder : ∀ k : LeaseNo, heldBy t.leases[k] j = heldBy s.leases[k] j

theorem State.Spares.refl (s : State) (j : SessionNo) : s.Spares s j := ⟨rfl, fun _ _ => rfl, fun _ => rfl⟩

theorem State.Spares.trans (h : s.Spares t j) (h' : t.Spares u j) : s.Spares u j where
  session := h'.session.trans h.session
  leases k hk := by
    have hst := h.leases k hk
    rw [h'.leases k (by rwa [hst]), hst]
  holder k := (h'.holder k).trans (h.holder k)

theorem State.ReachesAlone.spares (h : s.ReachesAlone t n) (hj : j ≠ n) : s.Spares t j where
  session := h.sessions j hj
  leases k hk := by
    refine h.leases k ?_
    rcases hk with hk | hk
    · exact heldBy_other hk hj
    · rw [hk]; rfl
  holder k := h.holders k j hj

theorem State.spares_foldl {f : State → SessionNo → State} (hf : ∀ (u : State) n, u.ReachesAlone (f u n) n)
    {ns : List SessionNo} (hj : j ∉ ns) : s.Spares (ns.foldl f s) j := by
  induction ns generalizing s with
  | nil => exact .refl s j
  | cons n ns ih =>
    rw [List.mem_cons, not_or] at hj
    obtain ⟨hjn, hjs⟩ := hj
    exact ((hf s n).spares hjn).trans (ih hjs)

/-- Of several sessions' happenings in a row, a session and its leases meet its own alone. -/
theorem State.foldl_reaches {f : State → SessionNo → State} (hf : ∀ (u : State) n, u.ReachesAlone (f u n) n)
    {ns : List SessionNo} (hns : ns.Nodup) (hj : j ∈ ns) : ∃ u, s.Spares u j ∧ (f u j).Spares (ns.foldl f s) j := by
  induction ns generalizing s with
  | nil => cases hj
  | cons n ns ih =>
    obtain ⟨hn, hns⟩ := List.nodup_cons.1 hns
    rcases List.mem_cons.1 hj with rfl | hj
    · exact ⟨s, .refl s j, State.spares_foldl hf hn⟩
    · obtain ⟨u, hbefore, hafter⟩ := ih (s := f s n) hns hj
      have hjn : j ≠ n := fun h => hn (h ▸ hj)
      exact ⟨u, ((hf s n).spares hjn).trans hbefore, hafter⟩

theorem foldl_kept {α β : Type} {p : State → β} {f : State → α → State} (h : ∀ u a, p (f u a) = p u) (xs : List α) :
    p (xs.foldl f s) = p s := by
  induction xs generalizing s with
  | nil => rfl
  | cons a xs ih => exact (ih (s := f s a)).trans (h s a)

/-! ## Outputs left aside -/

/-- A state without what it shows: the engines' outputs, the pins' levels and the attention lines, which follow from the
rest whenever a happening ends. -/
def State.unshown (s : State) : State :=
  { s with
    engines := mapTable (fun _ e => e.bare) s.engines
    pins := mapTable (fun _ p => { p with level := p.rest }) s.pins
    linkA := { s.linkA with attention := false }
    linkB := { s.linkB with attention := false } }

theorem State.leases_unshown : s.unshown.leases = s.leases := rfl

theorem State.engine_unshown (c : ChannelNo) : s.unshown.engines[c] = s.engines[c].bare := by
  rw [State.unshown, mapTable_at]

theorem State.pin_unshown (p : PinNo) : s.unshown.pins[p] = { s.pins[p] with level := s.pins[p].rest } := by
  rw [State.unshown, mapTable_at]

theorem Engine.lease?_bare (e : Engine) : e.bare.lease? = e.lease? := by cases e <;> rfl

/-- A pin that shows its rest level still does when it is released (R16, R96). -/
theorem PinEntry.releaseIf_rested (w : LeaseNo → Bool) (p : PinEntry) :
    ({ p with level := p.rest } : PinEntry).releaseIf w = { p.releaseIf w with level := (p.releaseIf w).rest } := by
  obtain ⟨owner, rest, level⟩ := p
  cases owner with
  | none => rfl
  | some o =>
    simp only [PinEntry.releaseIf]
    split <;> rfl

theorem State.engineNow_bare (e : Engine) : s.engineNow e.bare = s.engineNow e := by cases e <;> rfl

theorem State.unshown_refresh (s : State) : s.refresh.unshown = s.unshown := by
  have hengines : s.refresh.unshown.engines = s.unshown.engines := table_ext fun c => by
    rw [State.engine_unshown, State.engine_unshown, Fin.getElem_fin, State.engines_refresh, State.bare_engineNow]
    rfl
  have hpins : s.refresh.unshown.pins = s.unshown.pins := table_ext fun p => by
    rw [State.pin_unshown, State.pin_unshown, Fin.getElem_fin, State.pins_refresh]
    rfl
  have hlinkA : s.refresh.unshown.linkA = s.unshown.linkA := by
    have hlink : s.refresh.linkA = { s.linkA with attention := s.attentionOf .a } := s.link_refresh .a
    simp only [State.unshown, hlink]
  have hlinkB : s.refresh.unshown.linkB = s.unshown.linkB := by
    have hlink : s.refresh.linkB = { s.linkB with attention := s.attentionOf .b } := s.link_refresh .b
    simp only [State.unshown, hlink]
  exact State.ext (by simp [State.unshown]) (by simp [State.unshown]) (by simp [State.unshown]) hengines hpins
    (by simp [State.unshown]) (by simp [State.unshown]) (by simp [State.unshown]) (by simp [State.unshown])
    (by simp [State.unshown]) hlinkA hlinkB (by simp [State.unshown]) (by simp [State.unshown])
    (by simp [State.unshown]) (by simp [State.unshown]) (by simp [State.unshown])

/-- What a state shows follows from what it does not. -/
theorem State.refresh_unshown (s : State) : s.unshown.refresh = s.refresh := by
  have hnow (c : ChannelNo) : s.unshown.engineNow s.unshown.engines[c] = s.engineNow s.engines[c] := by
    rw [State.engine_unshown, State.engineNow_bare]
    exact State.engineNow_congr rfl rfl rfl rfl _
  have hgenerated : s.unshown.refreshEngines.engines = s.refreshEngines.engines := table_ext fun c => by
    rw [State.refreshEngines, State.refreshEngines, mapTable_at, mapTable_at, hnow]
  have hengines : s.unshown.refresh.engines = s.refresh.engines := table_ext fun c => by
    rw [Fin.getElem_fin, State.engines_refresh, Fin.getElem_fin, State.engines_refresh, ← Fin.getElem_fin, hnow]
    rfl
  have hlevel (p : PinNo) : s.unshown.refreshEngines.levelOf s.unshown.pins[p] = s.refreshEngines.levelOf s.pins[p] := by
    rw [State.pin_unshown]
    have hleases : s.unshown.refreshEngines.leases = s.refreshEngines.leases := by
      rw [State.leases_refreshEngines, State.leases_refreshEngines]
      rfl
    exact State.levelOf_congr hleases hgenerated rfl rfl
  have hpins : s.unshown.refresh.pins = s.refresh.pins := table_ext fun p => by
    rw [Fin.getElem_fin, State.pins_refresh, Fin.getElem_fin, State.pins_refresh, ← Fin.getElem_fin, hlevel, State.pin_unshown]
    rfl
  have hlink (l : Link) : s.unshown.refresh.link l = s.refresh.link l := by
    have hattention : s.unshown.attentionOf l = s.attentionOf l := by
      cases l <;> simp only [State.attentionOf, State.noticePending, State.link, State.unshown]
    rw [State.link_refresh, State.link_refresh, hattention]
    cases l <;> simp only [State.link, State.unshown]
  have hlinkA : s.unshown.refresh.linkA = s.refresh.linkA := by simpa only [State.link] using hlink .a
  have hlinkB : s.unshown.refresh.linkB = s.refresh.linkB := by simpa only [State.link] using hlink .b
  exact State.ext (by simp [State.unshown]) (by simp [State.unshown]) (by simp [State.unshown]) hengines hpins
    (by simp [State.unshown]) (by simp [State.unshown]) (by simp [State.unshown]) (by simp [State.unshown])
    (by simp [State.unshown]) hlinkA hlinkB (by simp [State.unshown]) (by simp [State.unshown])
    (by simp [State.unshown]) (by simp [State.unshown]) (by simp [State.unshown])

theorem State.unshown_setSession (n : SessionNo) (r : Session) : (s.setSession n r).unshown = s.unshown.setSession n r := rfl

theorem State.unshown_setLeases (ls : Vector Lease 16) : (s.setLeases ls).unshown = s.unshown.setLeases ls := rfl

theorem State.unshown_recordNotices (kinds : LeaseNo → KindSet) :
    (s.recordNotices kinds).unshown = s.unshown.recordNotices kinds := rfl

theorem State.unshown_mapEngines {f : LeaseNo → Engine → Engine} (hf : ∀ k e, (f k e).bare = f k e.bare) :
    (s.mapEngines f).unshown = s.unshown.mapEngines f := by
  have hengines : (s.mapEngines f).unshown.engines = (s.unshown.mapEngines f).engines := table_ext fun c => by
    rw [State.engine_unshown, State.mapEngines, State.mapEngines, mapTable_at, mapTable_at, State.engine_unshown,
      Engine.lease?_bare]
    cases s.engines[c].lease? with
    | none => rfl
    | some k => exact hf k _
  exact State.ext rfl rfl rfl hengines rfl rfl rfl rfl rfl rfl rfl rfl rfl rfl rfl rfl rfl

theorem Engine.bare_held_unstaged (e : Engine) : e.hold.dropStage.bare = e.bare.hold.dropStage := by cases e <;> rfl

theorem State.unshown_takeTrip (reached : LeaseRecord → Bool) (cause : Source) :
    (s.takeTrip reached cause).unshown = s.unshown.takeTrip reached cause := by
  rw [State.takeTrip, State.unshown_setLeases, State.unshown_mapEngines, State.unshown_recordNotices]
  · rfl
  · intro k e
    split
    · exact e.bare_held_unstaged
    · rfl

theorem State.unshown_freeLeases (w : LeaseNo → Bool) : (s.freeLeases w).unshown = s.unshown.freeLeases w := by
  have hengines : (s.freeLeases w).unshown.engines = (s.unshown.freeLeases w).engines := table_ext fun c => by
    rw [State.engine_unshown, Fin.getElem_fin, State.engines_freeLeases, Fin.getElem_fin, State.engines_freeLeases,
      ← Fin.getElem_fin, ← Fin.getElem_fin, State.engine_unshown, Engine.lease?_bare]
    split <;> rfl
  have hpins : (s.freeLeases w).unshown.pins = (s.unshown.freeLeases w).pins := table_ext fun p => by
    rw [State.pin_unshown, Fin.getElem_fin, State.pins_freeLeases, Fin.getElem_fin, State.pins_freeLeases,
      ← Fin.getElem_fin, ← Fin.getElem_fin, State.pin_unshown, PinEntry.releaseIf_rested]
  have htimebases : (s.freeLeases w).unshown.timebases = (s.unshown.freeLeases w).timebases := table_ext fun tb => by
    exact (s.timebases_freeLeases w tb.val tb.isLt).trans (s.unshown.timebases_freeLeases w tb.val tb.isLt).symm
  have hleases : (s.freeLeases w).unshown.leases = (s.unshown.freeLeases w).leases := table_ext fun k =>
    (s.leases_freeLeases w k.val k.isLt).trans (s.unshown.leases_freeLeases w k.val k.isLt).symm
  have hchannels : (s.freeLeases w).unshown.channels = (s.unshown.freeLeases w).channels := table_ext fun c =>
    (s.channels_freeLeases w c.val c.isLt).trans (s.unshown.channels_freeLeases w c.val c.isLt).symm
  have hcarrier (c : Carrier) : (s.freeLeases w).carrier c = (s.unshown.freeLeases w).carrier c :=
    (s.carrier_freeLeases w c).trans (s.unshown.carrier_freeLeases w c).symm
  exact State.ext hleases hchannels htimebases hengines hpins (hcarrier .ca) (hcarrier .cb) (by simp [State.unshown])
    (by simp [State.unshown]) (by simp [State.unshown]) (by simp [State.unshown]) (by simp [State.unshown])
    (by simp [State.unshown]) (by simp [State.unshown]) (by simp [State.unshown]) (by simp [State.unshown])
    (by simp [State.unshown])

theorem State.unshown_closeSession (n : SessionNo) : (s.closeSession n).unshown = s.unshown.closeSession n := by
  rw [State.closeSession, State.closeSession, State.unshown_setSession, State.unshown_freeLeases, State.leases_unshown]

theorem State.unshown_timerHappening (n : SessionNo) : (s.timerHappening n).unshown = s.unshown.timerHappening n := by
  cases hr : s.sessions[n] with
  | none => rw [State.timerHappening_free hr, State.timerHappening_free (s := s.unshown) hr]
  | some r =>
    cases hx : r.status with
    | opened x =>
      by_cases h : 1 < x
      · rw [State.timerHappening_opened hr hx h, State.timerHappening_opened (s := s.unshown) hr hx h, State.unshown_setSession]
      · rw [State.timerHappening_lapses hr hx (by omega), State.timerHappening_lapses (s := s.unshown) hr hx (by omega),
          State.lapseSession_opened hr hx, State.lapseSession_opened (s := s.unshown) hr hx, State.unshown_takeTrip,
          State.unshown_setSession]
    | lapsed x =>
      by_cases h : 1 < x
      · rw [State.timerHappening_lapsed hr hx h, State.timerHappening_lapsed (s := s.unshown) hr hx h, State.unshown_setSession]
      · rw [State.timerHappening_closes hr hx (by omega), State.timerHappening_closes (s := s.unshown) hr hx (by omega),
          State.unshown_closeSession]

/-! ## What no session timer moves -/

/-- Everything that a session timer leaves alone: the Trip Unit, the supply, the links, the reset and the queue. -/
def State.besides (s : State) :=
  (s.trip, s.supplyMv, s.linkA, s.linkB, s.lastServed, s.rstn, s.resetHeld, s.freeCount, s.pending)

theorem State.besides_eq_iff : t.besides = s.besides ↔ t.trip = s.trip ∧ t.supplyMv = s.supplyMv ∧ t.linkA = s.linkA
    ∧ t.linkB = s.linkB ∧ t.lastServed = s.lastServed ∧ t.rstn = s.rstn ∧ t.resetHeld = s.resetHeld
    ∧ t.freeCount = s.freeCount ∧ t.pending = s.pending := by
  simp only [State.besides, Prod.mk.injEq]

theorem State.besides_timerHappening (n : SessionNo) : (s.timerHappening n).besides = s.besides := by
  rcases s.timerHappening_cases n with h | ⟨r, x, -, h, -⟩ | h | h <;> simp [State.besides, h]

theorem State.tripKept_of_besides (h : t.besides = s.besides) : s.TripKept t.refresh := by
  obtain ⟨htrip, hsupply, -⟩ := State.besides_eq_iff.1 h
  exact ⟨by rw [State.refresh_trip, htrip], by rw [State.refresh_supplyMv, hsupply]⟩

theorem State.linksKept_of_besides (h : t.besides = s.besides) : s.LinksKept t.refresh := by
  obtain ⟨-, -, hA, hB, hserved, hrstn, -, hfree, hqueue⟩ := State.besides_eq_iff.1 h
  exact State.linksKept_of_kept hA hB hserved hrstn hfree hqueue

/-- The divider and the level of each carrier. -/
def State.waves (s : State) (c : Carrier) : Nat × Bool := ((s.carrier c).divider, (s.carrier c).high)

theorem State.wavesKept_iff : s.WavesKept t ↔ t.waves = s.waves := by
  simp only [State.WavesKept, funext_iff, State.waves, Prod.mk.injEq]

theorem State.carrier_setSession (r : Session) (c : Carrier) : (s.setSession n r).carrier c = s.carrier c := by
  cases c <;> rfl

theorem State.waves_lapseSession (n : SessionNo) : (s.lapseSession n).waves = s.waves := by
  rcases s.lapseSession_cases n with h | ⟨r, x, -, -, h⟩ <;> rw [h]
  funext c
  rw [State.waves, State.carrier_takeTrip, CarrierUnit.divider_recount, CarrierUnit.high_recount, State.carrier_setSession,
    State.waves]

theorem State.wavesKept_refresh (h : t.waves = s.waves) : s.WavesKept t.refresh := by
  rw [State.wavesKept_iff, ← h]
  funext c
  rw [State.waves, State.carrier_refresh, State.waves]

theorem State.waves_timerHappening (n : SessionNo) : (s.timerHappening n).waves = s.waves := by
  rcases s.timerHappening_cases n with h | ⟨r, x, -, h, -⟩ | h | h <;> rw [h]
  · rfl
  · exact State.waves_lapseSession n
  · funext c
    simp only [State.waves, State.closeSession, State.carrier_setSession, State.carrier_freeLeases, CarrierUnit.recount]

/-! ## A session and its leases after its own timer happening (R130) -/

/-- A time or a hold above 1 falls by one and nothing else moves. -/
theorem State.timerHappening_falls (hn : s.sessions[n] = some r) (hx : 1 < x) {st : SessionStatus}
    (hst : (r.status = .opened x ∧ st = .opened (x - 1)) ∨ (r.status = .lapsed x ∧ st = .lapsed (x - 1))) :
    s.timerHappening n = s.setSession n (some { r with status := st }) := by
  rcases hst with ⟨hr, rfl⟩ | ⟨hr, rfl⟩
  · exact State.timerHappening_opened hn hr hx
  · exact State.timerHappening_lapsed hn hr hx

theorem State.session_timerHappening_lapses (hn : s.sessions[n] = some r) (hx : r.status = .opened x) (h : x ≤ 1) :
    ∃ r', (s.timerHappening n).sessions[n] = some r'
      ∧ r' = { r with status := .lapsed (4 * r.interval), notices := r'.notices } := by
  rw [State.timerHappening_lapses hn hx h, State.session_lapseSession hn hx]
  exact ⟨_, rfl, rfl⟩

theorem State.session_timerHappening_closes (hn : s.sessions[n] = some r) (hx : r.status = .lapsed x) (h : x ≤ 1) :
    (s.timerHappening n).sessions[n] = none := by
  rw [State.timerHappening_closes hn hx h, Fin.getElem_fin, State.sessions_closeSession, if_pos rfl]

theorem State.lease_timerHappening_lapses (hk : s.leases[k] = some q)
    (hn : s.sessions[q.holder] = some r) (hx : r.status = .opened x) (h : x ≤ 1) :
    (s.timerHappening q.holder).leases[k] = some (q.trip .lapse) := by
  rw [State.timerHappening_lapses hn hx h, State.lease_lapseSession hn hx, hk, Option.map_some, if_pos (beq_self_eq_true _)]

theorem State.lease_timerHappening_closes (hk : s.leases[k] = some q)
    (hn : s.sessions[q.holder] = some r) (hx : r.status = .lapsed x) (h : x ≤ 1) :
    (s.timerHappening q.holder).leases[k] = none := by
  rw [State.timerHappening_closes hn hx h, Fin.getElem_fin, State.leases_closeSession, ← Fin.getElem_fin, hk, heldBy,
    if_pos (beq_self_eq_true _)]

/-! ## The tick of all sessions (R130) -/

/-- A session meets in the tick its own timer happening alone. -/
theorem State.session_tickAll (s : State) (n : SessionNo) :
    ∃ u : State, u.sessions[n] = s.sessions[n] ∧ s.tickAll.sessions[n] = (u.timerHappening n).sessions[n] := by
  obtain ⟨u, hbefore, hafter⟩ := State.foldl_reaches (s := s) (fun _ _ => State.reachesAlone_timerHappening)
    (List.nodup_finRange 8) (List.mem_finRange n)
  exact ⟨u, hbefore.session, hafter.session⟩

theorem State.session_tickAll_free (hn : s.sessions[n] = none) : s.tickAll.sessions[n] = none := by
  obtain ⟨u, hu, ht⟩ := s.session_tickAll n
  rw [hn] at hu
  rw [ht, State.timerHappening_free hu, hu]

theorem State.session_tickAll_opened (hn : s.sessions[n] = some r) (hr : r.status = .opened x) :
    if 1 < x then s.tickAll.sessions[n] = some { r with status := .opened (x - 1) }
    else ∃ r', s.tickAll.sessions[n] = some r' ∧ r' = { r with status := .lapsed (4 * r.interval), notices := r'.notices } := by
  obtain ⟨u, hu, ht⟩ := s.session_tickAll n
  rw [hn] at hu
  rw [ht]
  split
  next hx => rw [State.timerHappening_opened hu hr hx, State.session_setSession]
  next hx => exact State.session_timerHappening_lapses hu hr (Nat.not_lt.1 hx)

theorem State.session_tickAll_lapsed (hn : s.sessions[n] = some r) (hr : r.status = .lapsed x) :
    s.tickAll.sessions[n] = if 1 < x then some { r with status := .lapsed (x - 1) } else none := by
  obtain ⟨u, hu, ht⟩ := s.session_tickAll n
  rw [hn] at hu
  rw [ht]
  split
  next hx => rw [State.timerHappening_lapsed hu hr hx, State.session_setSession]
  next hx => exact State.session_timerHappening_closes hu hr (Nat.not_lt.1 hx)

/-- A lease that its session's timer happening reaches stays with the session or is FREE. -/
theorem State.owned_timerHappening (hk : heldBy s.leases[k] n = true) :
    heldBy (s.timerHappening n).leases[k] n = true ∨ (s.timerHappening n).leases[k] = none := by
  rcases s.timerHappening_cases n with h | ⟨r, x, -, h, -⟩ | h | h <;> rw [h]
  · exact .inl hk
  · exact .inl hk
  · rw [State.heldBy_lapseSession]
    exact .inl hk
  · rw [Fin.getElem_fin, State.leases_closeSession, ← Fin.getElem_fin, if_pos hk]
    exact .inr rfl

theorem State.lease_tickAll (hk : s.leases[k] = some q) :
    ∃ u : State, u.sessions[q.holder] = s.sessions[q.holder] ∧ u.leases[k] = some q
      ∧ s.tickAll.leases[k] = (u.timerHappening q.holder).leases[k] := by
  have hheld : heldBy s.leases[k] q.holder = true := heldBy_iff.2 ⟨q, hk, rfl⟩
  obtain ⟨u, hbefore, hafter⟩ := State.foldl_reaches (s := s) (fun _ _ => State.reachesAlone_timerHappening)
    (List.nodup_finRange 8) (List.mem_finRange q.holder)
  have hu : u.leases[k] = some q := (hbefore.leases k (.inl hheld)).trans hk
  exact ⟨u, hbefore.session, hu, hafter.leases k (State.owned_timerHappening (heldBy_iff.2 ⟨q, hu, rfl⟩))⟩

theorem State.free_tickAll (hk : s.leases[k] = none) : s.tickAll.leases[k] = none := by
  obtain ⟨u, hbefore, hafter⟩ := State.foldl_reaches (s := s) (j := 0) (fun _ _ => State.reachesAlone_timerHappening)
    (List.nodup_finRange 8) (List.mem_finRange 0)
  have hu : u.leases[k] = none := (hbefore.leases k (.inr hk)).trans hk
  have hown : (u.timerHappening 0).leases[k] = none :=
    (State.reachesAlone_timerHappening.leases k (by rw [hu]; rfl)).trans hu
  exact (hafter.leases k (.inr hown)).trans hown

theorem State.lease_tickAll_unheld (hk : s.leases[k] = some q) (hn : s.sessions[q.holder] = none) :
    s.tickAll.leases[k] = some q := by
  obtain ⟨u, hu, huk, ht⟩ := State.lease_tickAll hk
  rw [hn] at hu
  rw [ht, State.timerHappening_free hu, huk]

theorem State.lease_tickAll_opened (hk : s.leases[k] = some q) (hn : s.sessions[q.holder] = some r)
    (hr : r.status = .opened x) :
    if 1 < x then s.tickAll.leases[k] = some q else ∃ q', s.tickAll.leases[k] = some q' ∧ q.IsTripped q' .lapse := by
  obtain ⟨u, hu, huk, ht⟩ := State.lease_tickAll hk
  rw [hn] at hu
  rw [ht]
  split
  next hx => rw [State.timerHappening_opened hu hr hx, State.setSession_leases, huk]
  next hx => exact ⟨_, State.lease_timerHappening_lapses huk hu hr (Nat.not_lt.1 hx), q.isTripped_trip _⟩

theorem State.lease_tickAll_lapsed (hk : s.leases[k] = some q) (hn : s.sessions[q.holder] = some r)
    (hr : r.status = .lapsed x) : s.tickAll.leases[k] = if 1 < x then some q else none := by
  obtain ⟨u, hu, huk, ht⟩ := State.lease_tickAll hk
  rw [hn] at hu
  rw [ht]
  split
  next hx => rw [State.timerHappening_lapsed hu hr hx, State.setSession_leases, huk]
  next hx => exact State.lease_timerHappening_closes huk hu hr (Nat.not_lt.1 hx)

/-! ## The eight of a tick, one after the other (log 7) -/

/-- The states of a tick taken session by session, each happening with its outputs brought up to date. -/
def State.ticked (s : State) (ns : List SessionNo) : State := ns.foldl (fun u n => (u.timerHappening n).refresh) s

theorem State.unshown_foldl_timers (ns : List SessionNo) :
    (ns.foldl State.timerHappening s).unshown = ns.foldl State.timerHappening s.unshown := by
  induction ns generalizing s with
  | nil => rfl
  | cons n ns ih => rw [List.foldl_cons, ih, State.unshown_timerHappening, List.foldl_cons]

/-- Bringing the outputs up to date between the happenings of a tick leaves its end as it is. -/
theorem State.refresh_ticked (ns : List SessionNo) : (s.ticked ns).refresh = (ns.foldl State.timerHappening s).refresh := by
  induction ns generalizing s with
  | nil => rw [State.ticked, List.foldl_nil, List.foldl_nil]
  | cons n ns ih =>
    rw [State.ticked, List.foldl_cons, ← State.ticked, ih, ← State.refresh_unshown, State.unshown_foldl_timers,
      State.unshown_refresh, ← State.unshown_foldl_timers, State.refresh_unshown, List.foldl_cons]

theorem State.resetHeld_ticked (ns : List SessionNo) : (s.ticked ns).resetHeld = s.resetHeld :=
  foldl_kept (p := State.resetHeld) (fun u n => by
    obtain ⟨-, -, -, -, -, -, hheld, -⟩ := State.besides_eq_iff.1 (u.besides_timerHappening n)
    rw [State.refresh_resetHeld, hheld]) ns

theorem State.ticked_snoc (ns : List SessionNo) (n : SessionNo) :
    s.ticked (ns ++ [n]) = ((s.ticked ns).timerHappening n).refresh := by
  rw [State.ticked, List.foldl_append, List.foldl_cons, List.foldl_nil, State.ticked]

theorem exec_tick (who : Option SessionNo) (s : State) : exec (.tick who) s = execTick who s := rfl

theorem exec_tickAll (h : s.resetHeld = false) : exec (.tick none) s = .next s.tickAll.refresh := by
  rw [exec_tick, execTick, State.happen_free _ h]

theorem exec_tickOne (h : s.resetHeld = false) (n : SessionNo) :
    exec (.tick (some n)) s = .next (s.timerHappening n).refresh := by
  rw [exec_tick, execTick, State.happen_free _ h]

theorem take_sessions_succ : ∀ n : SessionNo,
    (List.finRange 8).take (n.val + 1) = (List.finRange 8).take n.val ++ [n] := by
  decide

theorem State.settled_ticked : (s.ticked (List.finRange 8)).Settled := by
  rw [show List.finRange 8 = (List.finRange 8).take 7 ++ [7] from take_sessions_succ 7, State.ticked_snoc]
  exact State.settled_refresh _

theorem exec_tickAll_eq_ticked (h : s.resetHeld = false) : exec (.tick none) s = .next (s.ticked (List.finRange 8)) := by
  have hsettled : (s.ticked (List.finRange 8)).refresh = s.ticked (List.finRange 8) := State.settled_ticked
  rw [exec_tickAll h, State.tickAll, ← hsettled, State.refresh_ticked]

/-! ## One session's tick on its own (R130, R131, R134) -/

theorem exec_tickOne_lapses (hheld : s.resetHeld = false) (hn : s.sessions[n] = some r) (hr : r.status = .opened x)
    (hx : x ≤ 1) : exec (.tick (some n)) s = exec (.lapse n) s := by
  have hdue : s.lapseDue n = true := by simp [State.lapseDue, hn, hr, hx]
  have hlapse : exec (.lapse n) s = execLapse n s := rfl
  rw [exec_tickOne hheld, State.timerHappening_lapses hn hr hx, hlapse, execLapse, State.happen_free _ hheld, if_pos hdue]

theorem exec_tickOne_closes (hheld : s.resetHeld = false) (hn : s.sessions[n] = some r) (hr : r.status = .lapsed x)
    (hx : x ≤ 1) : exec (.tick (some n)) s = exec (.holdExpiry n) s := by
  have hdue : s.expiryDue n = true := by simp [State.expiryDue, hn, hr, hx]
  have hexpiry : exec (.holdExpiry n) s = execHoldExpiry n s := rfl
  rw [exec_tickOne hheld, State.timerHappening_closes hn hr hx, hexpiry, execHoldExpiry,
    State.happen_free _ hheld, if_pos hdue]

theorem State.besides_setSession (n : SessionNo) (r : Session) : (s.setSession n r).besides = s.besides := rfl

/-- A settled state in which a session's record alone is written keeps everything else. -/
theorem State.kept_setSession {y : Session} (hs : s.Settled) : (s.setSession n y).refresh.sessions[n] = y
    ∧ s.OtherSessionsKept (s.setSession n y).refresh n ∧ s.LeasesKept (s.setSession n y).refresh
    ∧ s.OutputsKept (s.setSession n y).refresh ∧ s.TripKept (s.setSession n y).refresh
    ∧ s.LinksKept (s.setSession n y).refresh ∧ (s.setSession n y).refresh.resetHeld = s.resetHeld := by
  refine ⟨?_, fun j hj => ?_, State.leasesKept_of_tables (s.tables_setSession n y),
    State.outputsKept_of_tables hs (s.tables_setSession n y), State.tripKept_of_besides (State.besides_setSession n y),
    State.linksKept_of_besides (State.besides_setSession n y), ?_⟩
  · rw [State.refresh_sessions, State.session_setSession]
  · rw [State.refresh_sessions, State.session_setSession_other _ _ hj]
  · rw [State.refresh_resetHeld, State.setSession_resetHeld]

/-- Settles O19, part by part: what each session and each lease meets is its own timer happening, the tick is the eight
of them with the outputs brought up to date in between or at the end, and one of them is a fall, a lapse or a closing. -/
theorem tickMovesEveryTimer : Obligations.TickMovesEveryTimer := by
  unfold Obligations.TickMovesEveryTimer
  intro s hheld
  have hbesides : s.tickAll.besides = s.besides := foldl_kept (fun u n => u.besides_timerHappening n) _
  have hwaves : s.tickAll.waves = s.waves := foldl_kept (fun u n => u.waves_timerHappening n) _
  obtain ⟨-, -, -, -, -, -, hreset, -⟩ := State.besides_eq_iff.1 hbesides
  refine ⟨⟨_, exec_tickAll hheld, fun n => ?_, fun k => ?_, State.tripKept_of_besides hbesides,
    State.linksKept_of_besides hbesides, State.wavesKept_refresh hwaves, by rw [State.refresh_resetHeld, hreset, hheld],
    State.settled_refresh _⟩, ⟨fun i => s.ticked ((List.finRange 8).take i), rfl, fun n => ?_, ?_⟩,
    fun n hs => ⟨fun hn => ?_, fun r x hn =>
      ⟨exec_tickOne_lapses hheld hn, exec_tickOne_closes hheld hn, fun hx st hst => ?_⟩⟩⟩
  · rw [State.refresh_sessions]
    cases hn : s.sessions[n] with
    | none => exact State.session_tickAll_free hn
    | some r =>
      dsimp only
      cases hr : r.status with
      | opened x => exact State.session_tickAll_opened hn hr
      | lapsed x => exact State.session_tickAll_lapsed hn hr
  · rw [State.refresh_leases]
    cases hk : s.leases[k] with
    | none => exact State.free_tickAll hk
    | some q =>
      dsimp only
      cases hn : s.sessions[q.holder] with
      | none => exact State.lease_tickAll_unheld hk hn
      | some r =>
        rw [Option.map_some]
        cases hr : r.status with
        | opened x => exact State.lease_tickAll_opened hk hn hr
        | lapsed x => exact State.lease_tickAll_lapsed hk hn hr
  · dsimp only
    rw [exec_tickOne (by rw [State.resetHeld_ticked, hheld]), ← State.ticked_snoc, take_sessions_succ]
  · dsimp only
    rw [exec_tickAll_eq_ticked hheld, List.take_of_length_le (by rw [List.length_finRange])]
  · rw [exec_tickOne hheld, State.timerHappening_free hn, show s.refresh = s from hs]
  · obtain ⟨hself, hothers, hleases, houtputs, htrip, hlinks, hreset⟩ :=
      State.kept_setSession (n := n) (y := some { r with status := st }) hs
    exact ⟨_, by rw [exec_tickOne hheld, State.timerHappening_falls hn hx hst], hself, hothers, hleases, houtputs, htrip,
      hlinks, hreset.trans hheld⟩

end Sys2Proof.Machine
end

section
/-! A link dropped (R141, R160): the OPEN sessions of the link lapse one after the other, which is one trip of LAPSE for
the leases of them all. -/

namespace Sys2Proof.Machine

variable {s t u : State} {l : Link} {n : SessionNo} {r : SessionRecord} {x : Nat}

/-! ## Trips of one cause, one after the other (R111) -/

section trips

variable {w w' : LeaseRecord → Bool} {cause : Source} {c : ChannelNo} {k : LeaseNo}

theorem CarrierUnit.eq_of_fields {v v' : CarrierUnit} (hdivider : v.divider = v'.divider) (hhigh : v.high = v'.high)
    (huses : v.inUse = v'.inUse) : v = v' := by
  cases v
  cases v'
  cases hdivider
  cases hhigh
  cases huses
  rfl

theorem State.engine_takeTrip_unused (h : s.engines[c].lease? = none) : (s.takeTrip w cause).engines[c] = s.engines[c] := by
  rw [Fin.getElem_fin] at h
  rw [Fin.getElem_fin, State.engines_takeTrip, h]
  rfl

theorem State.engine_takeTrip_of (h : s.engines[c].lease? = some k) : (s.takeTrip w cause).engines[c]
    = if reaches w s.leases[k] then s.engines[c].hold.dropStage else s.engines[c] := by
  rw [Fin.getElem_fin] at h
  rw [Fin.getElem_fin, State.engines_takeTrip, h]
  rfl

theorem Engine.lease?_held_unstaged (e : Engine) : e.hold.dropStage.lease? = e.lease? := by cases e <;> rfl

theorem State.lease?_takeTrip (h : s.engines[c].lease? = some k) : (s.takeTrip w cause).engines[c].lease? = some k := by
  rw [State.engine_takeTrip_of h]
  split
  · rw [Engine.lease?_held_unstaged, h]
  · exact h

theorem reaches_or (l : Lease) : reaches (fun q => w q || w' q) l = (reaches w l || reaches w' l) := by
  cases l <;> rfl

/-- Of the leases that a trip reaches, another that reaches other leases reaches none. -/
theorem State.reaches_takeTrip (hdisjoint : ∀ q, w q = true → w' (q.trip cause) = false) (k : LeaseNo) :
    reaches w' (s.takeTrip w cause).leases[k] = (!reaches w s.leases[k] && reaches w' s.leases[k]) := by
  rw [Fin.getElem_fin, State.leases_takeTrip, ← Fin.getElem_fin]
  cases s.leases[k] with
  | none => rfl
  | some q =>
    rw [Option.map_some, reaches, Option.any_some, reaches, Option.any_some, reaches, Option.any_some]
    cases hq : w q with
    | true => exact hdisjoint q hq
    | false => rfl

/-- Two trips of one cause that reach different leases are one trip that reaches them all. -/
theorem State.tables_takeTrip_takeTrip (hs : s.CountsAgree)
    (hdisjoint : ∀ q, w q = true → w' (q.trip cause) = false) :
    ((s.takeTrip w cause).takeTrip w' cause).tables = (s.takeTrip (fun q => w q || w' q) cause).tables := by
  have hlease (k : LeaseNo) : ((s.takeTrip w cause).takeTrip w' cause).leases[k]
      = (s.takeTrip (fun q => w q || w' q) cause).leases[k] := by
    simp only [Fin.getElem_fin, State.leases_takeTrip, Option.map_map]
    refine congrArg (fun f => Option.map f _) (funext fun q => ?_)
    by_cases hq : w q = true
    · simp [hq, hdisjoint q hq]
    · simp [hq]
  have hleases := table_ext hlease
  have hcarrier (c : Carrier) : ((s.takeTrip w cause).takeTrip w' cause).carrier c
      = (s.takeTrip (fun q => w q || w' q) cause).carrier c := by
    have htwice := (State.TableMove.tripped (s.takeTrip w cause) w' cause).countsAgree
      ((State.TableMove.tripped s w cause).countsAgree hs)
    have honce := (State.TableMove.tripped s (fun q => w q || w' q) cause).countsAgree hs
    refine CarrierUnit.eq_of_fields ?_ ?_ (by rw [htwice.2 c, honce.2 c, hleases])
    · simp only [State.carrier_takeTrip, CarrierUnit.divider_recount]
    · simp only [State.carrier_takeTrip, CarrierUnit.high_recount]
  have hengine (c : ChannelNo) : ((s.takeTrip w cause).takeTrip w' cause).engines[c]
      = (s.takeTrip (fun q => w q || w' q) cause).engines[c] := by
    cases hk : s.engines[c].lease? with
    | none =>
      have hfirst : (s.takeTrip w cause).engines[c] = s.engines[c] := State.engine_takeTrip_unused hk
      rw [State.engine_takeTrip_unused (by rw [hfirst, hk]), hfirst, State.engine_takeTrip_unused hk]
    | some k =>
      rw [State.engine_takeTrip_of (State.lease?_takeTrip hk), State.engine_takeTrip_of hk, State.engine_takeTrip_of hk,
        State.reaches_takeTrip hdisjoint, reaches_or]
      cases reaches w s.leases[k] <;> rfl
  refine State.tables_eq_iff.2 ⟨hleases, ?_, ?_, table_ext hengine, ?_, hcarrier .ca, hcarrier .cb⟩
  · simp only [State.takeTrip_channels]
  · simp only [State.timebases_takeTrip]
  · simp only [State.takeTrip_pins]

end trips

/-! ## The sessions of a link -/

/-- Whether a session of the link is OPEN. -/
def State.openOn (s : State) (l : Link) (n : SessionNo) : Bool := s.sessions[n].any fun r => r.link == l && r.isOpen

/-- One session's share of a link dropped. -/
def State.lapseOn (s : State) (l : Link) (n : SessionNo) : State :=
  if s.sessions[n].any (fun r => r.link == l) then s.lapseSession n else s

theorem State.lapseLink_eq (s : State) (l : Link) : s.lapseLink l = (List.finRange 8).foldl (fun u n => u.lapseOn l n) s := rfl

theorem State.lapseOn_open (hn : s.sessions[n] = some r) (h : r.link = l) : s.lapseOn l n = s.lapseSession n := by
  rw [State.lapseOn, hn, Option.any_some, if_pos (beq_iff_eq.2 h)]

theorem State.openOn_iff : s.openOn l n = true
    ↔ ∃ r x, s.sessions[n] = some r ∧ r.link = l ∧ r.status = .opened x := by
  simp only [State.openOn, Option.any_eq_true, Bool.and_eq_true, beq_iff_eq, SessionRecord.isOpen_iff]
  exact ⟨fun ⟨r, hn, hlink, x, hx⟩ => ⟨r, x, hn, hlink, hx⟩, fun ⟨r, x, hn, hlink, hx⟩ => ⟨r, hn, hlink, x, hx⟩⟩

theorem State.lapseOn_not_open (h : s.openOn l n = false) : s.lapseOn l n = s := by
  rw [State.lapseOn]
  split
  · rename_i hlink
    rcases s.lapseSession_cases n with hsame | ⟨r, x, hn, hx, -⟩
    · exact hsame
    · rw [hn, Option.any_some, beq_iff_eq] at hlink
      rw [State.openOn_iff.2 ⟨r, x, hn, hlink, hx⟩] at h
      cases h
  · rfl

theorem State.reachesAlone_lapseOn : s.ReachesAlone (s.lapseOn l n) n := by
  rw [State.lapseOn]
  split
  · exact State.reachesAlone_lapseSession
  · exact ⟨fun _ _ => rfl, fun _ _ => rfl, fun _ _ _ => rfl⟩

theorem State.tables_lapseOn (h : s.openOn l n = true) :
    (s.lapseOn l n).tables = (s.takeTrip (fun q => q.holder == n) .lapse).tables := by
  obtain ⟨r, x, hn, hlink, hx⟩ := State.openOn_iff.1 h
  rw [State.lapseOn_open hn hlink, State.lapseSession_opened hn hx]
  exact State.tables_takeTrip (s.tables_setSession n _) _ _

theorem State.CountsAgree.of_tables (h : s.CountsAgree) (ht : t.tables = s.tables) : t.CountsAgree := by
  obtain ⟨hleases, -, htimebases, -, -, hA, hB⟩ := State.tables_eq_iff.1 ht
  exact h.congr hleases (fun tb => by rw [htimebases]) fun c => by cases c <;> simp only [State.carrier, hA, hB]

theorem State.CountsAgree.lapseOn (h : s.CountsAgree) (l : Link) (n : SessionNo) : (s.lapseOn l n).CountsAgree := by
  cases hopen : s.openOn l n with
  | true => exact ((State.TableMove.tripped s _ .lapse).countsAgree h).of_tables (State.tables_lapseOn hopen)
  | false => rwa [State.lapseOn_not_open hopen]

/-- The sessions of the link that lapse one after the other trip the leases of them all. -/
theorem State.tables_lapses {ns : List SessionNo} (hs : s.CountsAgree) (hns : ns.Nodup) :
    (ns.foldl (fun u n => u.lapseOn l n) s).tables
      = (s.takeTrip (fun q => ns.contains q.holder && s.openOn l q.holder) .lapse).tables := by
  induction ns generalizing s with
  | nil =>
    have hnone : s.takeTrip (fun q => ([] : List SessionNo).contains q.holder && s.openOn l q.holder) .lapse = s :=
      State.takeTrip_of_none fun k => by cases s.leases[k] <;> trivial
    rw [hnone, List.foldl_nil]
  | cons n ns ih =>
    obtain ⟨hn, hns⟩ := List.nodup_cons.1 hns
    have hrest (q : LeaseRecord) : (ns.contains q.holder && (s.lapseOn l n).openOn l q.holder)
        = (ns.contains q.holder && s.openOn l q.holder) := by
      cases hq : ns.contains q.holder with
      | false => rfl
      | true =>
        have hne : q.holder ≠ n := fun h => hn (h ▸ List.contains_iff_mem.1 hq)
        rw [State.openOn, State.reachesAlone_lapseOn.sessions _ hne, ← State.openOn]
    rw [List.foldl_cons, ih (hs.lapseOn l n) hns]
    simp only [hrest]
    by_cases hopen : s.openOn l n = true
    · have hsplit (q : LeaseRecord) : ((n :: ns).contains q.holder && s.openOn l q.holder)
          = (q.holder == n || (ns.contains q.holder && s.openOn l q.holder)) := by
        rw [List.contains_cons]
        by_cases hq : q.holder = n
        · rw [hq, hopen, beq_self_eq_true, Bool.true_or, Bool.true_and, Bool.true_or]
        · rw [beq_false_of_ne hq, Bool.false_or, Bool.false_or]
      simp only [hsplit]
      rw [State.tables_takeTrip (State.tables_lapseOn hopen), State.tables_takeTrip_takeTrip hs]
      intro q hq
      have hholder : (q.trip .lapse).holder = n := beq_iff_eq.1 hq
      rw [hholder, Bool.eq_false_iff.2 fun h => hn (List.contains_iff_mem.1 h),
        Bool.false_and]
    · have hsplit (q : LeaseRecord) : ((n :: ns).contains q.holder && s.openOn l q.holder)
          = (ns.contains q.holder && s.openOn l q.holder) := by
        rw [List.contains_cons]
        by_cases hq : q.holder = n
        · rw [hq, Bool.eq_false_iff.2 hopen, Bool.and_false, Bool.and_false]
        · rw [beq_false_of_ne hq, Bool.false_or]
      simp only [hsplit]
      rw [State.lapseOn_not_open (Bool.eq_false_iff.2 hopen)]

theorem State.tables_lapseLink (hs : s.CountsAgree) (l : Link) :
    (s.lapseLink l).tables = (s.takeTrip (fun q => s.openOn l q.holder) .lapse).tables := by
  have hevery (q : LeaseRecord) : (List.finRange 8).contains q.holder = true :=
    List.contains_iff_mem.2 (List.mem_finRange q.holder)
  rw [State.lapseLink_eq, State.tables_lapses hs (List.nodup_finRange 8)]
  simp only [hevery, Bool.true_and]

/-! ## What a dropped link leaves of each session (R131, R141) -/

theorem SessionRecord.notice_lapsedOver (leases : Vector Lease 16) (k : LeaseNo) : (r.lapsedOver leases n).notices[k]
    = if heldBy leases[k] n then r.notices[k].union (KindSet.inter { KindSet.empty with tripped := true } r.mask)
      else r.notices[k] := by
  rw [SessionRecord.lapsedOver, SessionRecord.recorded, mapTable_at]
  cases hheld : heldBy leases[k] n with
  | false => rfl
  | true =>
    obtain ⟨q, hk, hq⟩ := heldBy_iff.1 hheld
    rw [if_pos rfl, if_pos rfl, hk, reaches, Option.any_some, if_pos (beq_iff_eq.2 hq)]

theorem SessionRecord.lapsedOver_congr {ls ms : Vector Lease 16} (h : ∀ k : LeaseNo, heldBy ls[k] n = heldBy ms[k] n) :
    r.lapsedOver ls n = r.lapsedOver ms n := by
  have hnotices : (r.lapsedOver ls n).notices = (r.lapsedOver ms n).notices := table_ext fun k => by
    rw [SessionRecord.notice_lapsedOver, SessionRecord.notice_lapsedOver, h]
  calc r.lapsedOver ls n = { r.lapsedOver ms n with notices := (r.lapsedOver ls n).notices } := rfl
    _ = r.lapsedOver ms n := by rw [hnotices]

theorem State.besides_lapseLink (l : Link) : (s.lapseLink l).besides = s.besides :=
  foldl_kept (fun u n => by
    show (u.lapseOn l n).besides = u.besides
    rw [State.lapseOn]
    split
    · simp [State.besides]
    · rfl) _

/-- Of a dropped link a session meets its own lapse alone. -/
theorem State.session_lapseLink (s : State) (l : Link) (n : SessionNo) :
    ∃ u : State, s.Spares u n ∧ (s.lapseLink l).sessions[n] = (u.lapseOn l n).sessions[n] := by
  obtain ⟨u, hbefore, hafter⟩ := State.foldl_reaches (s := s) (f := fun u n => u.lapseOn l n)
    (fun _ _ => State.reachesAlone_lapseOn) (List.nodup_finRange 8) (List.mem_finRange n)
  exact ⟨u, hbefore, hafter.session⟩

theorem State.session_lapseLink_spared (h : s.openOn l n = false) : (s.lapseLink l).sessions[n] = s.sessions[n] := by
  obtain ⟨u, hbefore, hafter⟩ := s.session_lapseLink l n
  rw [hafter, State.lapseOn_not_open (by rw [State.openOn, hbefore.session, ← State.openOn, h]), hbefore.session]

theorem State.session_lapseLink_lapsed (hn : s.sessions[n] = some r) (hlink : r.link = l) (hopen : r.isOpen = true) :
    (s.lapseLink l).sessions[n] = some (r.lapsedOver s.leases n) := by
  obtain ⟨x, hx⟩ := r.isOpen_iff.1 hopen
  obtain ⟨u, hbefore, hafter⟩ := s.session_lapseLink l n
  have hu : u.sessions[n] = some r := hbefore.session.trans hn
  rw [hafter, State.lapseOn_open hu hlink, State.session_lapseSession hu hx,
    SessionRecord.lapsedOver_congr hbefore.holder]

/-- The sessions of another link are as they were. -/
theorem State.noticePending_lapseLink {m : Link} (hm : m ≠ l) : (s.lapseLink l).noticePending m = s.noticePending m := by
  have hsame (n : SessionNo) (r : SessionRecord) (hr : r.link = m) :
      (s.lapseLink l).sessions[n] = some r ↔ s.sessions[n] = some r := by
    cases hopen : s.openOn l n with
    | false => rw [State.session_lapseLink_spared hopen]
    | true =>
      obtain ⟨y, x, hn, hlink, hx⟩ := State.openOn_iff.1 hopen
      rw [State.session_lapseLink_lapsed hn hlink (SessionRecord.isOpen_opened hx), hn]
      constructor
      · rintro ⟨⟩
        exact absurd (hr.symm.trans hlink) hm
      · rintro ⟨⟩
        exact absurd (hr.symm.trans hlink) hm
  rw [Bool.eq_iff_iff, State.noticePending_iff, State.noticePending_iff]
  exact ⟨fun ⟨n, r, k, hn, hr, hk⟩ => ⟨n, r, k, (hsame n r hr).1 hn, hr, hk⟩,
    fun ⟨n, r, k, hn, hr, hk⟩ => ⟨n, r, k, (hsame n r hr).2 hn, hr, hk⟩⟩

end Sys2Proof.Machine
end

section
/-! CLEAR LINK (R141, R160): the bytes exchanged, and what chip select rising makes of each drop flag. -/

namespace Sys2Proof.Machine

variable {s t : State} {l m : Link} {rest : List Byte} {p p' : LinkPort} {n : SessionNo} {r : SessionRecord}

/-! ## One link's port written -/

theorem State.setLink_setLink : (s.setLink l p).setLink l p' = s.setLink l p' := by cases l <;> rfl

theorem State.noticePending_setLink : (s.setLink l p).noticePending m = s.noticePending m := by
  simp only [State.noticePending, State.setLink_sessions]

theorem State.port_setLink (u : State) (l : Link) (p : LinkPort) : ((u.setLink l p).refresh.link l).slot = p.slot
    ∧ ((u.setLink l p).refresh.link l).refused = p.refused ∧ ((u.setLink l p).refresh.link l).transaction = p.transaction
    ∧ ((u.setLink l p).refresh.link l).out = p.out := by
  have hkept := (u.setLink l p).link_refresh_kept l
  rwa [State.link_setLink] at hkept

/-- In a settled state a link that keeps its port, and whose sessions keep their notices, keeps its attention line. -/
theorem State.link_refresh_same (hs : s.Settled) (hport : t.link m = s.link m) (hreset : t.resetHeld = s.resetHeld)
    (hpending : t.noticePending m = s.noticePending m) : t.refresh.link m = s.link m := by
  have hattention : t.attentionOf m = s.attentionOf m := by
    rw [State.attentionOf, hreset, hport, hpending, State.attentionOf]
  have hsettled : s.refresh.link m = s.link m := by rw [show s.refresh = s from hs]
  rw [State.link_refresh, hport, hattention, ← State.link_refresh, hsettled]

/-- A happening of one link's transaction that leaves the other links' notices: it reaches that link alone. -/
theorem State.onlyLink_of_besides (hs : s.Settled) (ht : t.besides = (s.setLink l p').besides)
    (hpending : ∀ m, m ≠ l → t.noticePending m = s.noticePending m) : s.OnlyLink (t.setLink l p).refresh l := by
  obtain ⟨-, -, hA, hB, hserved, hrstn, hreset, hfree, hqueue⟩ := State.besides_eq_iff.1 ht
  have hlink (m : Link) : t.link m = (s.setLink l p').link m := by cases m <;> assumption
  refine ⟨fun m hm => State.link_refresh_same hs ?_ ?_ (State.noticePending_setLink.trans (hpending m hm)),
    State.attention_refresh _ l, ?_, ?_, ?_, ?_⟩
  · rw [State.link_setLink_other _ _ hm, hlink, State.link_setLink_other _ _ hm]
  · rw [State.setLink_resetHeld, hreset, State.setLink_resetHeld]
  · rw [State.refresh_lastServed, State.setLink_lastServed, hserved, State.setLink_lastServed]
  · rw [State.refresh_rstn, State.setLink_rstn, hrstn, State.setLink_rstn]
  · rw [State.refresh_freeCount, State.setLink_freeCount, hfree, State.setLink_freeCount]
  · rw [State.refresh_pending, State.setLink_pending, hqueue, State.setLink_pending]

theorem State.onlyLink_setLink (hs : s.Settled) : s.OnlyLink (s.setLink l p).refresh l := by
  have honly := State.onlyLink_of_besides (p := p) (p' := p) (t := s.setLink l p) hs rfl fun m _ => ?_
  · rwa [State.setLink_setLink] at honly
  · exact State.noticePending_setLink

theorem State.everythingElseKept_setLink (hs : s.Settled) : s.EverythingElseKept (s.setLink l p).refresh where
  leases := by constructor <;> simp
  outputs := State.outputsKept_of_kept hs (by simp) (by simp) (by simp) (by simp) (by simp) (by simp)
  trip := by constructor <;> simp
  sessions := by simp
  reset := by simp

/-! ## The bytes exchanged (R153, R160, R168) -/

/-- The port of a link whose CLEAR LINK is complete but for chip select rising. -/
def State.clearingPort (s : State) (l : Link) (rest : List Byte) : LinkPort :=
  { s.link l with
    transaction := some (.clear rest.head?)
    out := s.statusByte l :: List.replicate rest.length 0 }

theorem State.exchanged_clear (hheld : s.resetHeld = false) (hnone : (s.link l).transaction = none) (rest : List Byte) :
    ((s.selectLink l).firstByte l 0xC0).moreBytes l rest = s.setLink l (s.clearingPort l rest) := by
  have hrow : transactionRow 0xC0 = .clear := by decide
  have hselected : s.selectLink l
      = s.setLink l { s.link l with out := [], transaction := some (.selected (s.statusByte l)) } := by
    rw [State.selectLink, hnone, hheld]
    rfl
  have hfirst : (s.selectLink l).firstByte l 0xC0
      = s.setLink l { s.link l with out := [s.statusByte l], transaction := some (.clear none) } := by
    simp only [hselected, State.firstByte, State.link_setLink, hrow, State.setLink_setLink]
  simp only [hfirst, State.moreBytes, State.link_setLink, State.setLink_setLink, Option.none_or]
  rfl

theorem exec_clearLink (hheld : s.resetHeld = false) (hnone : (s.link l).transaction = none) (rest : List Byte) :
    exec (.clearLink l (.whole 0xC0 rest)) s = .next ((s.setLink l (s.clearingPort l rest)).riseLink l).refresh := by
  have hrow : transactionRow 0xC0 = .clear := by decide
  have hexec : exec (.clearLink l (.whole 0xC0 rest)) s = .next (s.transact .clear l (.whole 0xC0 rest)).refresh := rfl
  rw [hexec, State.transact, State.firstOfRow, hrow, decide_eq_true rfl, hnone, decide_eq_true rfl, Bool.true_or,
    Bool.true_or, Bool.true_and, if_pos rfl, State.wholeTransaction, State.exchanged_clear hheld hnone]

/-! ## Chip select rising (R160) -/

/-- The port of a link once chip select has risen on a CLEAR LINK that was ignored. -/
def State.ignoredPort (s : State) (l : Link) (rest : List Byte) : LinkPort :=
  { s.clearingPort l rest with transaction := none }

/-- The port of a link once chip select has risen on a CLEAR LINK that was taken. -/
def State.clearedPort (s : State) (l : Link) (rest : List Byte) : LinkPort :=
  { s.ignoredPort l rest with slot := .idle, refused := false }

/-- What chip select rising makes of a CLEAR LINK, by the drop flag received. -/
theorem State.riseLink_clear {flag : Option Byte} (h : (s.link l).transaction = some (.clear flag)) : s.riseLink l
    = (if flag = some 0 then s.clearedLink l false else if flag = some 1 then s.clearedLink l true else s).endTransaction l := by
  simp only [State.riseLink, h]
  cases flag with
  | none => rfl
  | some b =>
    simp only [Option.some.injEq]
    split
    · rfl
    · split <;> rfl

theorem State.transaction_clearing : ((s.setLink l (s.clearingPort l rest)).link l).transaction = some (.clear rest.head?) := by
  rw [State.link_setLink, State.clearingPort]

theorem State.rise_kept (h : rest.head? = some 0) :
    (s.setLink l (s.clearingPort l rest)).riseLink l = s.setLink l (s.clearedPort l rest) := by
  rw [State.riseLink_clear State.transaction_clearing, if_pos h]
  simp only [State.clearedLink, Bool.false_eq_true, if_false, State.endTransaction, State.link_setLink, State.setLink_setLink]
  rfl

theorem State.rise_ignored (h0 : rest.head? ≠ some 0) (h1 : rest.head? ≠ some 1) :
    (s.setLink l (s.clearingPort l rest)).riseLink l = s.setLink l (s.ignoredPort l rest) := by
  rw [State.riseLink_clear State.transaction_clearing, if_neg h0, if_neg h1, State.endTransaction, State.link_setLink,
    State.setLink_setLink, State.ignoredPort]

/-- The state once the slot of a dropped link is IDLE and its sessions have lapsed. -/
def State.dropped (s : State) (l : Link) (rest : List Byte) : State :=
  (s.setLink l { s.clearedPort l rest with transaction := some (.clear rest.head?) }).lapseLink l

theorem State.besides_dropped : (s.dropped l rest).besides
    = (s.setLink l { s.clearedPort l rest with transaction := some (.clear rest.head?) }).besides := State.besides_lapseLink l

theorem State.rise_dropped (h : rest.head? = some 1) :
    (s.setLink l (s.clearingPort l rest)).riseLink l = (s.dropped l rest).setLink l (s.clearedPort l rest) := by
  have hne : rest.head? ≠ some 0 := by rw [h]; decide
  have hcleared : (s.setLink l (s.clearingPort l rest)).clearedLink l true = s.dropped l rest := by
    rw [State.clearedLink, if_pos rfl, State.link_setLink, State.setLink_setLink]
    rfl
  have hlink : (s.dropped l rest).link l = { s.clearedPort l rest with transaction := some (.clear rest.head?) } := by
    obtain ⟨-, -, hA, hB, -⟩ := State.besides_eq_iff.1 (State.besides_dropped (s := s) (l := l) (rest := rest))
    cases l
    · exact hA
    · exact hB
  rw [State.riseLink_clear State.transaction_clearing, if_neg hne, if_pos h, hcleared, State.endTransaction, hlink]
  rfl

theorem State.openOn_setLink : (s.setLink m p).openOn l n = s.openOn l n := by
  rw [State.openOn, State.setLink_sessions, State.openOn]

theorem State.tables_setLink : (s.setLink l p).tables = s.tables := by simp [State.tables]

theorem State.tables_dropped (hs : s.CountsAgree) :
    (s.dropped l rest).tables = (s.takeTrip (fun q => s.openOn l q.holder) .lapse).tables := by
  rw [State.dropped, State.tables_lapseLink]
  · simp only [State.openOn_setLink]
    exact State.tables_takeTrip State.tables_setLink _ _
  · exact hs.of_tables State.tables_setLink

theorem State.session_dropped_spared_of (h : s.openOn l n = false) : (s.dropped l rest).sessions[n] = s.sessions[n] := by
  rw [State.dropped, State.session_lapseLink_spared (State.openOn_setLink.trans h), State.setLink_sessions]

theorem State.session_dropped_free (hn : s.sessions[n] = none) : (s.dropped l rest).sessions[n] = none := by
  rw [State.session_dropped_spared_of (by rw [State.openOn, hn, Option.any_none]), hn]

theorem State.session_dropped_spared (hn : s.sessions[n] = some r) (h : ¬(r.link = l ∧ r.isOpen = true)) :
    (s.dropped l rest).sessions[n] = some r := by
  rw [State.session_dropped_spared_of, hn]
  rwa [State.openOn, hn, Option.any_some, Bool.eq_false_iff, ne_eq, Bool.and_eq_true, beq_iff_eq]

theorem State.session_dropped_lapsed (hn : s.sessions[n] = some r) (hlink : r.link = l) (hopen : r.isOpen = true) :
    (s.dropped l rest).sessions[n] = some (r.lapsedOver s.leases n) := by
  rw [State.dropped, State.session_lapseLink_lapsed (by rw [State.setLink_sessions, hn]) hlink hopen, State.setLink_leases]

theorem State.noticePending_dropped (hm : m ≠ l) : (s.dropped l rest).noticePending m = s.noticePending m := by
  rw [State.dropped, State.noticePending_lapseLink hm, State.noticePending_setLink]

/-- Settles O48: the link is written alone, and with drop the sessions that lapse are its OPEN ones. -/
theorem clearLinkDropsTheSlot : Obligations.ClearLinkDropsTheSlot := by
  unfold Obligations.ClearLinkDropsTheSlot
  intro s l rest hheld hs hnone
  have hexec := exec_clearLink hheld hnone rest
  refine ⟨fun h0 => ?_, fun h1 hcounts => ?_, fun h0 h1 => ?_⟩
  · rw [State.rise_kept h0] at hexec
    obtain ⟨hslot, hrefused, htransaction, hout⟩ := s.port_setLink l (s.clearedPort l rest)
    exact ⟨_, hexec, hslot, hrefused, htransaction, hout, State.onlyLink_setLink hs, State.everythingElseKept_setLink hs⟩
  · rw [State.rise_dropped h1] at hexec
    obtain ⟨hslot, hrefused, htransaction, hout⟩ := (s.dropped l rest).port_setLink l (s.clearedPort l rest)
    obtain ⟨htrip, hsupply, -, -, -, -, hreset, -⟩ :=
      State.besides_eq_iff.1 (State.besides_dropped (s := s) (l := l) (rest := rest))
    refine ⟨_, hexec, hslot, hrefused, htransaction, hout,
      State.onlyLink_of_besides hs State.besides_dropped fun m hm => State.noticePending_dropped hm, fun n => ?_,
      State.tripTaken_of_tables hcounts (State.tables_setLink.trans (State.tables_dropped hcounts)), ⟨?_, ?_⟩, ?_,
      State.settled_refresh _⟩
    · rw [State.refresh_sessions, State.setLink_sessions]
      cases hn : s.sessions[n] with
      | none => exact State.session_dropped_free hn
      | some r =>
        dsimp only
        split
        · rename_i h
          obtain ⟨hlink, hopen⟩ := h
          exact ⟨_, State.session_dropped_lapsed hn hlink hopen, rfl, SessionRecord.notice_lapsedOver s.leases⟩
        · rename_i h
          exact State.session_dropped_spared hn h
    · rw [State.refresh_trip, State.setLink_trip, htrip, State.setLink_trip]
    · rw [State.refresh_supplyMv, State.setLink_supplyMv, hsupply, State.setLink_supplyMv]
    · rw [State.refresh_resetHeld, State.setLink_resetHeld, hreset, State.setLink_resetHeld, hheld]
  · rw [State.rise_ignored h0 h1] at hexec
    obtain ⟨hslot, hrefused, htransaction, hout⟩ := s.port_setLink l (s.ignoredPort l rest)
    exact ⟨_, hexec, hslot, hrefused, htransaction, hout, State.onlyLink_setLink hs, State.everythingElseKept_setLink hs⟩

end Sys2Proof.Machine
end

section
/-! READ NOTICES (R149, R150): the entries it returns, and the set it leaves. -/

namespace Sys2Proof.Machine

variable {s : State} {l : Link} {ps : List Byte} {n : SessionNo} {r : SessionRecord} {k : LeaseNo}

/-! ## The entries of a notice set (R144, R149) -/

/-- The leases that have an entry in a session's notice set. -/
def SessionRecord.noticeItems (r : SessionRecord) : List LeaseNo :=
  (List.finRange 16).filter fun k => decide (r.notices[k] ≠ KindSet.empty)

theorem SessionRecord.mem_noticeItems : k ∈ r.noticeItems ↔ r.notices[k] ≠ KindSet.empty := by
  rw [SessionRecord.noticeItems, List.mem_filter, decide_eq_true_iff]
  exact and_iff_right (List.mem_finRange k)

theorem SessionRecord.noticeItems_ascending (r : SessionRecord) : r.noticeItems.Pairwise (· < ·) :=
  (List.pairwise_lt_finRange 16).filter _

theorem SessionRecord.notices_renewed (r : SessionRecord) : r.renewed.notices = r.notices := by
  unfold SessionRecord.renewed; split <;> rfl

/-- What a READ NOTICES answers: the count of entries, and each entry's lease and kinds (R149, R171). -/
def SessionRecord.noticeAnswer (r : SessionRecord) : Response :=
  goodResponse (byte r.noticeItems.length :: r.noticeItems.flatMap fun k => [byte k.val, r.notices[k].toByte])

/-- The renewal of R128 moves no notice, so it changes no answer to READ NOTICES. -/
theorem SessionRecord.noticeAnswer_renewed (r : SessionRecord) : r.renewed.noticeAnswer = r.noticeAnswer := by
  simp only [SessionRecord.noticeAnswer, SessionRecord.noticeItems, SessionRecord.notices_renewed]

/-! ## The command -/

/-- A session's record with its notice set empty. -/
def SessionRecord.noticesTaken (r : SessionRecord) : SessionRecord :=
  { r with notices := Vector.replicate 16 KindSet.empty }

theorem performReadNotices_some (h : s.sessions[n] = some r) (ps : List Byte) :
    performReadNotices s n ps = .ok (s.setSession n (some r.noticesTaken), r.noticeAnswer) := by
  rw [performReadNotices, h]
  rfl

theorem performReadNotices_ok (h : s.Serves .readNotices l ps n r) : performReadNotices (s.renewed n) n ps
    = .ok ((s.renewed n).setSession n (some r.renewed.noticesTaken), r.noticeAnswer) := by
  rw [performReadNotices_some (State.session_renewed h.record), SessionRecord.noticeAnswer_renewed]

/-- Settles O16: the command writes the record of its own session alone, and answers with the entries it held. -/
theorem readNoticesEmptiesTheSet : Obligations.ReadNoticesEmptiesTheSet := by
  unfold Obligations.ReadNoticesEmptiesTheSet
  intro s l ps n r h hs
  refine ⟨_, State.happen_served h (performReadNotices_ok h), ?_, fun j hj => ?_,
    ⟨r.noticeItems, r.noticeItems_ascending, fun k => SessionRecord.mem_noticeItems, ?_⟩, ?_, ?_, ?_⟩
  · rw [State.refresh_sessions, State.place_sessions, State.session_setSession]
    rfl
  · rw [State.refresh_sessions, State.place_sessions, State.session_setSession_other _ _ hj,
      State.session_after_renewal h.record, if_neg hj]
  · exact State.answered_of_kept l r.noticeAnswer (by simp) (by simp) (by simp) (by simp) (by simp) (by simp)
  · exact State.leasesKept_of_tables (by simp)
  · exact State.outputsKept_of_tables hs (by simp)
  · constructor <;> simp

end Sys2Proof.Machine
end

section
/-! The executor's rows (R162, R163): which command it chooses, the slot it answers in, and the commands it refuses at the
common checks or for their code. -/

namespace Sys2Proof.Machine

variable {s u : State} {c : Command} {l : Link} {f : Frame} {ps : List Byte} {n : SessionNo} {r : SessionRecord}

/-! ## What a command's own checks and effect do not reach (R162) -/

/-- Both links, RSTn, the hold of a reset, the free values and the queue. -/
def State.exterior (s : State) : LinkPort × LinkPort × LineLevel × Bool × Nat × List Instr :=
  (s.linkA, s.linkB, s.rstn, s.resetHeld, s.freeCount, s.pending)

theorem State.answered_of_exterior (l : Link) (resp : Response) (h : u.exterior = s.exterior) :
    s.Answered (u.place l resp).refresh l resp := by
  simp only [State.exterior, Prod.mk.injEq] at h
  obtain ⟨hA, hB, hrstn, hreset, hfree, hqueue⟩ := h
  exact State.answered_of_kept l resp hA hB hreset hrstn hfree hqueue

section operations

variable (s : State)

theorem State.exterior_setSession (n : SessionNo) (q : Session) : (s.setSession n q).exterior = s.exterior := by
  simp [State.exterior]

theorem State.exterior_renewed (n : SessionNo) : (s.renewed n).exterior = s.exterior := by simp [State.exterior]

theorem State.exterior_setTrip (x : TripUnit) : ({ s with trip := x } : State).exterior = s.exterior := rfl

theorem State.exterior_setPins (x : Vector PinEntry 24) : ({ s with pins := x } : State).exterior = s.exterior := rfl

theorem State.exterior_setInput (i : FaultLine) (x : FaultInput) : (s.setInput i x).exterior = s.exterior := by
  simp [State.exterior]

theorem State.exterior_setInputLatch (i : FaultLine) : (s.setInputLatch i).exterior = s.exterior := by simp [State.exterior]

theorem State.exterior_setSupplyLatch : s.setSupplyLatch.exterior = s.exterior := by simp [State.exterior]

theorem State.exterior_selectEdge (i : FaultLine) (e : Edge) : (s.selectEdge i e).exterior = s.exterior := by
  simp only [State.selectEdge]
  split
  · exact (State.exterior_setInputLatch _ i).trans (s.exterior_setInput i _)
  · exact s.exterior_setInput i _

theorem State.exterior_compareSupply : s.compareSupply.exterior = s.exterior := by
  unfold State.compareSupply
  split
  · exact State.exterior_setSupplyLatch _
  · split <;> rfl

theorem State.exterior_retireLease (k : LeaseNo) (q : LeaseRecord) (m : RetireMode) :
    (s.retireLease k q m).exterior = s.exterior := by
  unfold State.retireLease
  split <;> simp [State.exterior]

theorem State.exterior_clearLease (k : LeaseNo) (q : LeaseRecord) : (s.clearLease k q).exterior = s.exterior := by
  unfold State.clearLease
  split
  · simp [State.exterior]
  · split <;> simp [State.exterior]

end operations

/-- Where a command's own checks accept it, its effect stays within the tables. -/
def KeepsExterior (s : State) (p : Performed) : Prop := ∀ x, p = .ok x → x.1.exterior = s.exterior

theorem keepsExterior_ok {resp : Response} (h : u.exterior = s.exterior) : KeepsExterior s (.ok (u, resp)) := by
  rintro _ ⟨⟩
  exact h

/-- A check before the effect moves nothing. -/
theorem keepsExterior_bind {α : Type} {x : Except Reject α} {g : α → Performed} (h : ∀ a, KeepsExterior s (g a)) :
    KeepsExterior s (x >>= g) := fun y hy => by
  obtain ⟨a, -, ha⟩ := bind_eq_ok.1 hy
  exact h a y ha

theorem keepsExterior_settleRefusal {p : Performed} (h : KeepsExterior s p) :
    (settleRefusal s p).1.exterior = s.exterior := by
  cases p with
  | error e => rfl
  | ok x => exact h x rfl

theorem keepsExterior_claim : KeepsExterior s (performClaimCommand s n ps) :=
  keepsExterior_bind fun _ => keepsExterior_bind fun _ => keepsExterior_bind fun _ => keepsExterior_bind fun _ =>
    keepsExterior_bind fun _ => keepsExterior_bind fun _ => keepsExterior_bind fun _ => keepsExterior_bind fun _ =>
      keepsExterior_bind fun _ => keepsExterior_bind fun _ => keepsExterior_ok (by simp [State.exterior])

theorem keepsExterior_amend : KeepsExterior s (performAmend s n ps) :=
  keepsExterior_bind fun _ => keepsExterior_bind fun _ => keepsExterior_bind fun _ => keepsExterior_bind fun _ =>
    keepsExterior_bind fun _ => keepsExterior_bind fun _ => keepsExterior_bind fun _ => keepsExterior_bind fun _ =>
      keepsExterior_ok (by simp [State.exterior])

theorem keepsExterior_readNotices : KeepsExterior s (performReadNotices s n ps) := by
  unfold performReadNotices
  split
  · exact keepsExterior_ok rfl
  · exact keepsExterior_ok (s.exterior_setSession n _)

theorem keepsExterior_queryLease : KeepsExterior s (performQueryLease s n ps) :=
  keepsExterior_bind fun _ => keepsExterior_bind fun _ => by
    split
    · exact keepsExterior_ok rfl
    · exact keepsExterior_bind fun _ => keepsExterior_ok rfl

theorem keepsExterior_haltAll : KeepsExterior s (performHaltAll s n ps) :=
  keepsExterior_bind fun _ => by
    split
    · exact keepsExterior_ok rfl
    · exact keepsExterior_ok (by simp [State.exterior])

/-- Every command but OPEN SESSION is taken for a session, and its effect stays within the tables. -/
theorem exec_takes_within (hc : c ≠ .openSession) :
    ∃ perform : State → SessionNo → List Byte → Performed, (∀ s n ps, KeepsExterior s (perform s n ps))
      ∧ ∀ s, exec c.instr s = s.happen fun s => s.takeSession c perform := by
  cases c with
  | openSession => exact absurd rfl hc
  | renew => exact ⟨performRenew, fun _ _ _ => keepsExterior_ok rfl, fun _ => rfl⟩
  | closeSession => exact ⟨performCloseSession, fun _ _ _ => keepsExterior_ok (by simp [State.exterior]), fun _ => rfl⟩
  | claim => exact ⟨performClaimCommand, fun _ _ _ => keepsExterior_claim, fun _ => rfl⟩
  | amend => exact ⟨performAmend, fun _ _ _ => keepsExterior_amend, fun _ => rfl⟩
  | readNotices => exact ⟨performReadNotices, fun _ _ _ => keepsExterior_readNotices, fun _ => rfl⟩
  | queryLease => exact ⟨performQueryLease, fun _ _ _ => keepsExterior_queryLease, fun _ => rfl⟩
  | haltAll => exact ⟨performHaltAll, fun _ _ _ => keepsExterior_haltAll, fun _ => rfl⟩
  | retire =>
    exact ⟨performRetire, fun s _ _ => keepsExterior_bind fun k => keepsExterior_bind fun _ => keepsExterior_bind fun m =>
      keepsExterior_bind fun q => keepsExterior_ok (s.exterior_retireLease k q m), fun _ => rfl⟩
  | clearTrip =>
    exact ⟨performClearTrip, fun s _ _ => keepsExterior_bind fun k => keepsExterior_bind fun _ => keepsExterior_bind fun q =>
      keepsExterior_ok (s.exterior_clearLease k q), fun _ => rfl⟩
  | retune =>
    exact ⟨performRetune, fun _ _ _ => keepsExterior_bind fun _ => keepsExterior_bind fun _ => keepsExterior_bind fun _ =>
      keepsExterior_bind fun _ => keepsExterior_bind fun _ => keepsExterior_ok (by simp [State.exterior]), fun _ => rfl⟩
  | adopt =>
    exact ⟨performAdopt, fun _ _ _ => keepsExterior_bind fun _ => keepsExterior_bind fun _ => keepsExterior_bind fun _ =>
      keepsExterior_bind fun _ => keepsExterior_ok (by simp [State.exterior]), fun _ => rfl⟩
  | setPinRest =>
    exact ⟨performSetPinRest, fun s _ _ => keepsExterior_bind fun _ => keepsExterior_bind fun _ => keepsExterior_bind fun _ =>
      keepsExterior_ok (s.exterior_setPins _), fun _ => rfl⟩
  | setCarrier =>
    exact ⟨performSetCarrier, fun _ _ _ => keepsExterior_bind fun _ => keepsExterior_bind fun _ => keepsExterior_bind fun _ =>
      keepsExterior_bind fun _ => keepsExterior_ok (by simp [State.exterior]), fun _ => rfl⟩
  | setFaultEdge =>
    exact ⟨performSetFaultEdge, fun s _ _ => keepsExterior_bind fun _ => keepsExterior_bind fun i => keepsExterior_bind fun e =>
      keepsExterior_bind fun _ => keepsExterior_ok (s.exterior_selectEdge i e), fun _ => rfl⟩
  | setSupplyLevel =>
    exact ⟨performSetSupplyLevel, fun _ _ _ => keepsExterior_bind fun _ => keepsExterior_bind fun _ =>
      keepsExterior_ok (State.exterior_compareSupply _), fun _ => rfl⟩
  | readFaults => exact ⟨performReadFaults, fun s _ _ => keepsExterior_bind fun _ => keepsExterior_ok (s.exterior_setTrip _),
    fun _ => rfl⟩
  | releaseHalt => exact ⟨performReleaseHalt, fun s _ _ => keepsExterior_bind fun _ => keepsExterior_ok (s.exterior_setTrip _),
    fun _ => rfl⟩
  | querySession => exact ⟨performQuerySession, fun _ _ _ => keepsExterior_bind fun _ => keepsExterior_ok rfl, fun _ => rfl⟩
  | queryTimebase => exact ⟨performQueryTimebase, fun _ _ _ => keepsExterior_bind fun _ => keepsExterior_ok rfl, fun _ => rfl⟩
  | findByPin => exact ⟨performFindByPin, fun _ _ _ => keepsExterior_bind fun _ => keepsExterior_ok rfl, fun _ => rfl⟩
  | listLeases => exact ⟨performListLeases, fun _ _ _ => keepsExterior_bind fun _ => keepsExterior_ok rfl, fun _ => rfl⟩

/-! ## The choice and the answer (R162) -/

theorem Slot.frame?_eq_some {sl : Slot} : sl.frame? = some f ↔ sl = .queued f := by
  cases sl <;> simp [Slot.frame?]

/-- The executor chooses a QUEUED slot, where the other slot is not QUEUED or is the one it served last. -/
theorem State.chosen_of_queued (hf : (s.link l).slot = .queued f)
    (hother : ∀ m g, m ≠ l → (s.link m).slot = .queued g → s.lastServed = m) : s.chosen = some (l, f) := by
  cases l with
  | a =>
    have hA : s.linkA.slot.frame? = some f := Slot.frame?_eq_some.2 hf
    cases hB : s.linkB.slot.frame? with
    | none => simp only [State.chosen, hA, hB]
    | some g =>
      have hlast : s.lastServed = .b := hother .b g (by decide) (Slot.frame?_eq_some.1 hB)
      simp only [State.chosen, hA, hB, hlast, reduceCtorEq, if_false]
  | b =>
    have hB : s.linkB.slot.frame? = some f := Slot.frame?_eq_some.2 hf
    cases hA : s.linkA.slot.frame? with
    | none => simp only [State.chosen, hA, hB]
    | some g =>
      have hlast : s.lastServed = .a := hother .a g (by decide) (Slot.frame?_eq_some.1 hA)
      simp only [State.chosen, hA, hB, hlast, if_true]

theorem State.exterior_serveSession {perform : State → SessionNo → List Byte → Performed}
    (h : ∀ u n ps, KeepsExterior u (perform u n ps)) : (s.serveSession c perform l f).1.exterior = s.exterior := by
  rw [State.serveSession]
  split
  · rfl
  · rw [keepsExterior_settleRefusal (h _ _ _), State.exterior_renewed]

theorem State.exterior_serveOpenSession : (s.serveOpenSession l f).1.exterior = s.exterior :=
  keepsExterior_settleRefusal (keepsExterior_bind fun _ => keepsExterior_bind fun _ => keepsExterior_bind fun _ =>
    keepsExterior_bind fun _ => keepsExterior_bind fun n => keepsExterior_ok (s.exterior_setSession n _))

/-- The row of the command that the executor chooses: what the command leaves within the tables, with its response placed. -/
theorem exec_chosen (hheld : s.resetHeld = false) (hchosen : s.chosen = some (l, f)) (hcode : f.code = c.code) :
    ∃ (u : State) (resp : Response), exec c.instr s = .next (u.place l resp).refresh ∧ u.exterior = s.exterior := by
  by_cases hopen : c = .openSession
  · subst hopen
    have hexec : exec Command.openSession.instr s = s.happen State.takeOpenSession := rfl
    rw [hexec, State.happen_free _ hheld, State.takeOpenSession_chosen hchosen hcode]
    exact ⟨_, _, rfl, State.exterior_serveOpenSession⟩
  · obtain ⟨perform, hperform, hexec⟩ := exec_takes_within hopen
    rw [hexec, State.happen_free _ hheld, State.takeSession_chosen perform hchosen hcode]
    exact ⟨_, _, rfl, State.exterior_serveSession hperform⟩

/-- Settles O6: the QUEUED slot is the one chosen, and the command's response is placed there. -/
theorem executorAnswersInTheCommandsSlot : Obligations.ExecutorAnswersInTheCommandsSlot := by
  unfold Obligations.ExecutorAnswersInTheCommandsSlot
  intro s c l f hheld hqueued hother hcode
  obtain ⟨u, resp, hexec, hexterior⟩ := exec_chosen hheld (State.chosen_of_queued hqueued hother) hcode
  exact ⟨_, resp, hexec, State.answered_of_exterior l resp hexterior⟩

/-! ## Rows that do not come about (log 6) -/

theorem State.happen_unchanged {take : State → State} (hs : s.Settled) (h : take s = s) : s.happen take = .next s := by
  unfold State.happen
  split
  · rfl
  · rw [h, show s.refresh = s from hs]

theorem State.takeOpenSession_other (h : ∀ l f, s.chosen = some (l, f) → f.code ≠ Command.openSession.code) :
    s.takeOpenSession = s := by
  unfold State.takeOpenSession
  split
  · rfl
  · rename_i l f hchosen
    rw [if_neg (h l f hchosen)]

/-- Settles O9: a row takes the state on only where its own command is chosen. -/
theorem unchosenCommandsChangeNothing : Obligations.UnchosenCommandsChangeNothing := by
  unfold Obligations.UnchosenCommandsChangeNothing
  intro s c hs hother
  by_cases hopen : c = .openSession
  · subst hopen
    exact State.happen_unchanged hs (State.takeOpenSession_other hother)
  · obtain ⟨perform, -, hexec⟩ := exec_eq_takeSession hopen
    rw [hexec]
    exact State.happen_unchanged (take := fun s => s.takeSession c perform) hs (State.takeSession_other hother)

/-! ## Refusals that change no table (R163, R164) -/

/-- A happening that places a refusal on the tables as they were. -/
theorem State.happen_places {take : State → State} {e : Reject} (hheld : s.resetHeld = false) (hs : s.Settled)
    (htake : take s = s.place l e.response) : ∃ t, s.happen take = .next t ∧ s.Answered t l e.response
      ∧ t.sessions = s.sessions ∧ s.LeasesKept t ∧ s.OutputsKept t ∧ s.TripKept t := by
  rw [State.happen_free _ hheld, htake]
  obtain ⟨hanswered, hleases, houtputs, htrip⟩ := State.placed_refusal (n := 0) hs (.inl rfl) l e.response
  exact ⟨_, rfl, hanswered, by simp, hleases, houtputs, htrip⟩

theorem Command.ofCode_eq_none {code : Byte} (h : ∀ c : Command, c.code ≠ code) : Command.ofCode code = none :=
  List.find?_eq_none.2 fun c _ hcode => h c (beq_iff_eq.1 hcode)

theorem State.takeBadCommand_chosen (hchosen : s.chosen = some (l, f)) (hcode : ∀ c : Command, c.code ≠ f.code) :
    s.takeBadCommand = s.place l { status := .badCommand, detail := f.code, data := [] } := by
  simp only [State.takeBadCommand, hchosen, Command.ofCode_eq_none hcode]

/-- Settles O10: no command has the code, so the refusal is placed. -/
theorem badCommandIsRefused : Obligations.BadCommandIsRefused := by
  unfold Obligations.BadCommandIsRefused
  intro s l f hheld hs hchosen hcode
  exact State.happen_places (e := { status := .badCommand, detail := f.code }) hheld hs
    (State.takeBadCommand_chosen hchosen hcode)

/-! ## The common checks in order (R163) -/

theorem checkLength_refuses (h : f.params.length ∉ c.lengths) :
    checkLength c f = .error { status := .badLength, detail := byte f.params.length } :=
  check_eq_error (by rwa [List.contains_iff_mem]) _ _

theorem checkLength_passes (h : f.params.length ∈ c.lengths) : checkLength c f = .ok () :=
  check_eq_ok.2 (List.contains_iff_mem.2 h)

/-- A byte is the one that carries its number. -/
theorem byte_toNat (b : Byte) : byte b.toNat = b := BitVec.ofNat_toNat ..

theorem indexOf_eq_none {m k : Nat} (h : m ≤ k) : indexOf m k = none := dif_neg (by omega)

theorem State.checkSession_noSession (h : 8 ≤ arg f.params 0 ∨ ∃ n : SessionNo, arg f.params 0 = n.val ∧ s.sessions[n] = none) :
    s.checkSession c l f = .error { status := .noSession, detail := byte (arg f.params 0) } := by
  rw [arg, byte_toNat]
  rcases h with h | ⟨n, hn, hfree⟩
  · simp only [State.checkSession, indexOf_eq_none h, need_none, bind, Except.bind]
  · simp only [State.checkSession, indexOf_eq_some.2 hn, need_some, hfree, need_none, bind, Except.bind]

section record

variable (hn : arg f.params 0 = n.val) (hr : s.sessions[n] = some r)
include hn hr

theorem State.checkSession_wrongLink (hlink : r.link ≠ l) :
    s.checkSession c l f = .error { status := .wrongLink, detail := linkCode r.link } := by
  simp only [State.checkSession, indexOf_eq_some.2 hn, need_some, hr, beq_false_of_ne hlink, check_error, bind, Except.bind]

theorem State.checkSession_lapsed (hlink : r.link = l) (hallowed : c.allowedIn r.status = false) :
    s.checkSession c l f = .error { status := .lapsed, detail := 0 } := by
  simp only [State.checkSession, indexOf_eq_some.2 hn, need_some, hr, hlink, beq_self_eq_true, check_ok, hallowed,
    check_error, bind, Except.bind]

end record

theorem State.commonChecks_length {e : Reject} (h : checkLength c f = .error e) : s.commonChecks c l f = .error e := by
  rw [State.commonChecks, h]
  rfl

theorem State.commonChecks_session {e : Reject} (hlength : f.params.length ∈ c.lengths) (h : s.checkSession c l f = .error e) :
    s.commonChecks c l f = .error e := by
  rw [State.commonChecks, checkLength_passes hlength]
  exact h

/-- A command that its common checks refuse is answered on the tables as they were. -/
theorem exec_refused_common {e : Reject} (hc : c ≠ .openSession) (hheld : s.resetHeld = false) (hs : s.Settled)
    (hchosen : s.chosen = some (l, f)) (hcode : f.code = c.code) (h : s.commonChecks c l f = .error e) :
    ∃ t, exec c.instr s = .next t ∧ s.Answered t l e.response
      ∧ t.sessions = s.sessions ∧ s.LeasesKept t ∧ s.OutputsKept t ∧ s.TripKept t := by
  obtain ⟨perform, -, hexec⟩ := exec_eq_takeSession hc
  rw [hexec]
  refine State.happen_places (take := fun s => s.takeSession c perform) hheld hs ?_
  have hserve : s.serveSession c perform l f = (s, e.response) := by
    rw [State.commonChecks] at h
    rw [State.serveSession, h]
  rw [State.takeSession_chosen perform hchosen hcode, hserve]

/-- A command of a wrong length is answered on the tables as they were, OPEN SESSION too. -/
theorem exec_refused_length (hheld : s.resetHeld = false) (hs : s.Settled) (hchosen : s.chosen = some (l, f))
    (hcode : f.code = c.code) (h : f.params.length ∉ c.lengths) :
    ∃ t, exec c.instr s = .next t
      ∧ s.Answered t l { status := .badLength, detail := byte f.params.length, data := [] }
      ∧ t.sessions = s.sessions ∧ s.LeasesKept t ∧ s.OutputsKept t ∧ s.TripKept t := by
  have hlength := checkLength_refuses h
  by_cases hopen : c = .openSession
  · subst hopen
    have hserve : s.serveOpenSession l f
        = (s, Reject.response { status := .badLength, detail := byte f.params.length }) := by
      rw [State.serveOpenSession, hlength]
      rfl
    exact State.happen_places (take := State.takeOpenSession) hheld hs
      (by rw [State.takeOpenSession_chosen hchosen hcode, hserve])
  · exact exec_refused_common hopen hheld hs hchosen hcode (State.commonChecks_length hlength)

/-- Settles O7, step by step. -/
theorem commonChecksRefuseInOrder : Obligations.CommonChecksRefuseInOrder := by
  unfold Obligations.CommonChecksRefuseInOrder
  rintro s c l ps status detail hheld hs hchosen (⟨hlength, rfl, rfl⟩ | ⟨hc, hlength, hsession, rfl, rfl⟩
    | ⟨hc, hlength, n, r, hn, hr, hlink, rfl, rfl⟩ | ⟨hc, hlength, n, r, x, hn, hr, hlink, hlapsed, hmay, rfl, rfl⟩)
  · exact exec_refused_length hheld hs hchosen rfl hlength
  · exact exec_refused_common hc hheld hs hchosen rfl
      (State.commonChecks_session hlength (State.checkSession_noSession hsession))
  · exact exec_refused_common hc hheld hs hchosen rfl
      (State.commonChecks_session hlength (State.checkSession_wrongLink hn hr hlink))
  · have hallowed : c.allowedIn r.status = false := by rw [hlapsed]; exact hmay
    exact exec_refused_common hc hheld hs hchosen rfl
      (State.commonChecks_session hlength (State.checkSession_lapsed hn hr hlink hallowed))

end Sys2Proof.Machine
end

section
/-! The transactions of a link, part by part (R153 to R160). Each part but a CLEAR LINK that is taken writes one port, and
only chip select rising moves a slot to DONE or from it, so that no part before moves an attention line. -/

namespace Sys2Proof.Machine

variable {s : State} {l : Link} {p : LinkPort} {row : TransactionRow} {b st : Byte} {rest received : List Byte}
  {moment : Moment} {x : Transaction} {due : Option Byte} {r : Response}

/-! ## One port written -/

theorem State.Settled.setLink (hs : s.Settled) (hdone : p.slot.isDone = (s.link l).slot.isDone)
    (hline : p.attention = (s.link l).attention) : (s.setLink l p).Settled := by
  obtain ⟨hnow, hpins, hlines⟩ := State.settled_iff.1 hs
  refine State.settled_iff.2 ⟨fun c => ?_, fun k => ?_, fun m => ?_⟩
  · cases l <;> exact (State.engineNow_congr rfl rfl rfl rfl _).trans (hnow c)
  · cases l <;> exact hpins k
  · rw [State.attentionOf, State.setLink_resetHeld, State.noticePending_setLink]
    by_cases hm : m = l
    · subst m
      rw [State.link_setLink, hline, hdone, hlines, State.attentionOf]
    · rw [State.link_setLink_other _ _ hm, hlines, State.attentionOf]

/-- No output reads the index of the free values (R86, R95, R151). -/
theorem State.Settled.setFree (hs : s.Settled) (k : Nat) : ({ s with freeCount := k } : State).Settled := by
  obtain ⟨hnow, hpins, hlines⟩ := State.settled_iff.1 hs
  exact State.settled_iff.2 ⟨fun c => (State.engineNow_congr rfl rfl rfl rfl _).trans (hnow c), hpins, hlines⟩

theorem exec_row (row : TransactionRow) (l : Link) (moment : Moment) (s : State) :
    exec (rowInstr row l moment) s = .next (s.transact row l moment).refresh := by
  cases row <;> rfl

/-- A row that leaves a link's port as given and touches nothing outside the link. -/
def State.Writes (s : State) (i : Instr) (l : Link) (p : LinkPort) : Prop :=
  ∃ t, exec i s = .next t ∧ t.link l = p ∧ s.OnlyLink t l ∧ s.EverythingElseKept t

/-- A row that leaves a link's port as given but for its attention line, which follows the slot (R151), and touches nothing
outside the link. -/
def State.WritesSlot (s : State) (i : Instr) (l : Link) (p : LinkPort) : Prop :=
  ∃ t, exec i s = .next t ∧ (t.link l).slot = p.slot ∧ (t.link l).refused = p.refused
    ∧ (t.link l).transaction = p.transaction ∧ (t.link l).out = p.out ∧ s.OnlyLink t l ∧ s.EverythingElseKept t

theorem State.writes_of_transact (hs : s.Settled) (h : s.transact row l moment = s.setLink l p)
    (hdone : p.slot.isDone = (s.link l).slot.isDone) (hline : p.attention = (s.link l).attention) :
    s.Writes (rowInstr row l moment) l p := by
  refine ⟨(s.setLink l p).refresh, by rw [exec_row, h], ?_, State.onlyLink_setLink hs, State.everythingElseKept_setLink hs⟩
  rw [show (s.setLink l p).refresh = s.setLink l p from hs.setLink hdone hline, State.link_setLink]

theorem State.writesSlot_of_transact (hs : s.Settled) (h : s.transact row l moment = s.setLink l p) :
    s.WritesSlot (rowInstr row l moment) l p := by
  obtain ⟨hslot, hrefused, htransaction, hout⟩ := s.port_setLink l p
  exact ⟨(s.setLink l p).refresh, by rw [exec_row, h], hslot, hrefused, htransaction, hout, State.onlyLink_setLink hs,
    State.everythingElseKept_setLink hs⟩

/-! ## The kinds of transaction (R153) -/

theorem transactionRow_frame (hlow : 1 ≤ b.toNat) (hhigh : b.toNat ≤ 0x3F) : transactionRow b = .frame :=
  if_pos ⟨hlow, hhigh⟩

theorem transactionRow_ignored (h : b = 0 ∨ (0x40 ≤ b.toNat ∧ b ≠ 0x80 ∧ b ≠ 0xC0)) : transactionRow b = .ignored := by
  rcases h with rfl | ⟨hhigh, hfetch, hclear⟩
  · rfl
  · rw [transactionRow, if_neg (by omega), if_neg hfetch, if_neg hclear]

/-! ## Chip select falling and the first byte (R153, R154) -/

theorem Slot.ne_idle_of_taken {sl : Slot} (h : (∃ f, sl = .queued f) ∨ ∃ r, sl = .done r) : sl ≠ .idle := by
  obtain ⟨f, rfl⟩ | ⟨r, rfl⟩ := h <;> exact nofun

theorem State.selectLink_none (h : (s.link l).transaction = none) : s.selectLink l = s.setLink l { s.link l with
    transaction := some (if s.resetHeld then .ignored (some (s.statusByte l)) else .selected (s.statusByte l))
    out := [] } := by
  simp only [State.selectLink, h]

/-- The port once the first byte has selected a kind, with the status byte sent (R153, R156, R157, R159). -/
def LinkPort.opened (p : LinkPort) (row : TransactionRow) (b st : Byte) : LinkPort :=
  match row with
  | .frame =>
    if p.slot = .idle then { p with slot := .filling [b], transaction := some .frame, out := [st] }
    else { p with transaction := some .refusedFrame, out := [st] }
  | .fetch => { p with transaction := some (.fetch p.slot.isDone), out := [st] }
  | .clear => { p with transaction := some (.clear none), out := [st] }
  | .ignored => { p with transaction := some (.ignored none), out := [st] }

theorem State.firstByte_selected (h : (s.link l).transaction = some (.selected st)) (b : Byte) :
    s.firstByte l b = s.setLink l ((s.link l).opened (transactionRow b) b st) := by
  simp only [State.firstByte, h, LinkPort.opened]
  cases transactionRow b with
  | frame => dsimp only; split <;> rfl
  | fetch | clear | ignored => rfl

theorem State.firstByte_ignored (h : (s.link l).transaction = some (.ignored due)) (b : Byte) :
    s.firstByte l b = s.shiftIgnored l due 1 := by
  simp only [State.firstByte, h]

theorem LinkPort.opened_idle (h : p.slot = .idle) (b st : Byte) :
    p.opened .frame b st = { p with slot := .filling [b], transaction := some .frame, out := [st] } := if_pos h

theorem LinkPort.opened_taken (h : p.slot ≠ .idle) (b st : Byte) :
    p.opened .frame b st = { p with transaction := some .refusedFrame, out := [st] } := if_neg h

theorem LinkPort.isDone_opened : (p.opened row b st).slot.isDone = p.slot.isDone := by
  cases row with
  | frame =>
    by_cases h : p.slot = .idle
    · rw [LinkPort.opened_idle h, h]; rfl
    · rw [LinkPort.opened_taken h]
  | fetch | clear | ignored => rfl

theorem LinkPort.attention_opened : (p.opened row b st).attention = p.attention := by
  cases row with
  | frame => unfold LinkPort.opened; dsimp only; split <;> rfl
  | fetch | clear | ignored => rfl

/-- What a first byte makes of a port depends on its slot, not on what was sent before. -/
theorem LinkPort.opened_of_port {p q : LinkPort} (hslot : q.slot = p.slot) (hrefused : q.refused = p.refused)
    (hline : q.attention = p.attention) : q.opened row b st = p.opened row b st := by
  obtain ⟨slot, refused, line, transaction, out⟩ := p
  obtain ⟨slot', refused', line', transaction', out'⟩ := q
  subst hslot hrefused hline
  cases row <;> rfl

/-- The status byte taken as chip select falls is sent with the first byte (R154). -/
theorem State.firstByte_selectLink (hheld : s.resetHeld = false) (hnone : (s.link l).transaction = none) (b : Byte) :
    (s.selectLink l).firstByte l b = s.setLink l ((s.link l).opened (transactionRow b) b (s.statusByte l)) := by
  have hselected : ((s.selectLink l).link l).transaction = some (.selected (s.statusByte l)) := by
    rw [State.selectLink_none hnone, State.link_setLink, hheld]
    rfl
  rw [State.firstByte_selected hselected, State.selectLink_none hnone, State.setLink_setLink, State.link_setLink]
  exact congrArg (s.setLink l) (LinkPort.opened_of_port rfl rfl rfl)

/-! ## Further bytes (R153, R156 to R158) -/

theorem State.moreBytes_frame (h : (s.link l).transaction = some .frame) (hslot : (s.link l).slot = .filling received)
    (bs : List Byte) : s.moreBytes l bs = s.setLink l { s.link l with
      slot := .filling (received ++ bs), out := (s.link l).out ++ List.replicate bs.length 0 } := by
  simp only [State.moreBytes, h, hslot]

theorem State.moreBytes_refusedFrame (h : (s.link l).transaction = some .refusedFrame) (bs : List Byte) :
    s.moreBytes l bs = s.setLink l { s.link l with out := (s.link l).out ++ List.replicate bs.length 0 } := by
  simp only [State.moreBytes, h]

theorem State.moreBytes_clear {flag : Option Byte} (h : (s.link l).transaction = some (.clear flag)) (bs : List Byte) :
    s.moreBytes l bs = s.setLink l { s.link l with
      transaction := some (.clear (flag.or bs.head?)), out := (s.link l).out ++ List.replicate bs.length 0 } := by
  simp only [State.moreBytes, h]

theorem State.moreBytes_ignored (h : (s.link l).transaction = some (.ignored due)) (bs : List Byte) :
    s.moreBytes l bs = s.shiftIgnored l due bs.length := by
  simp only [State.moreBytes, h]

/-- The next bytes that a FETCH sends (R158, R159). -/
def LinkPort.fetched (p : LinkPort) (live : Bool) (n : Nat) : List Byte :=
  (List.range n).map fun i => if live then p.slot.responseByte (p.out.length - 1 + i) else 0

theorem State.moreBytes_fetch {live : Bool} (h : (s.link l).transaction = some (.fetch live)) (bs : List Byte) :
    s.moreBytes l bs = s.setLink l { s.link l with out := (s.link l).out ++ (s.link l).fetched live bs.length } := by
  simp only [State.moreBytes, h, LinkPort.fetched]

theorem LinkPort.fetched_dead (p : LinkPort) (n : Nat) : p.fetched false n = List.replicate n 0 := by
  simp [LinkPort.fetched, List.map_const']

/-- Reading past the end of a list as 0. -/
theorem map_getD_range (xs : List Byte) (k n : Nat) :
    ((List.range n).map fun i => xs.getD (k + i) 0) = (xs.drop k ++ List.replicate n 0).take n := by
  refine List.ext_getElem (by simp) fun i hi hi' => ?_
  have hn : i < n := by simpa using hi
  rw [List.getElem_map, List.getElem_range, List.getElem_take, List.getElem_append]
  split
  · rename_i h
    rw [List.getElem_drop, List.getD_eq_getElem]
  · rename_i h
    rw [List.getElem_replicate, List.getD_eq_default]
    rw [List.length_drop] at h
    omega

theorem byteSum_append (xs ys : List Byte) : byteSum (xs ++ ys) = byteSum xs + byteSum ys := by
  induction xs with
  | nil => simp [byteSum]
  | cons x xs ih => rw [List.cons_append, byteSum, byteSum, ih, BitVec.add_assoc]

/-- The frame that carries a response and sums to 0 is its bytes (R158, R168). -/
def Response.Frames (r : Response) (body : List Byte) : Prop :=
  ∃ chk, body = [r.status.code, r.detail, byte r.data.length] ++ r.data ++ [chk] ∧ byteSum body = 0

theorem Response.Frames.bytes {body : List Byte} (h : r.Frames body) : r.bytes = body := by
  obtain ⟨chk, rfl, hsum⟩ := h
  rw [byteSum_append] at hsum
  have hchk : 0 - byteSum ([r.status.code, r.detail, byte r.data.length] ++ r.data) = chk := by
    simp only [byteSum] at hsum ⊢
    bv_omega
  rw [Response.bytes, hchk]

theorem Response.length_bytes (r : Response) : r.bytes.length = r.data.length + 4 := by
  simp [Response.bytes]

theorem LinkPort.fetched_live (hslot : p.slot = .done r) {body : List Byte} (hbody : r.Frames body) (n : Nat) :
    p.fetched true n = (body.drop (p.out.length - 1) ++ List.replicate n 0).take n := by
  rw [← map_getD_range, LinkPort.fetched, hslot, ← hbody.bytes]
  rfl

/-! ## Chip select rising (R156 to R159) -/

theorem State.riseLink_frame (h : (s.link l).transaction = some .frame) (hslot : (s.link l).slot = .filling received) :
    s.riseLink l = s.setLink l { (s.link l).judged received with transaction := none } := by
  simp only [State.riseLink, h, hslot, State.endTransaction, State.link_setLink, State.setLink_setLink]

theorem State.riseLink_refusedFrame (h : (s.link l).transaction = some .refusedFrame) :
    s.riseLink l = s.setLink l { s.link l with refused := true, transaction := none } := by
  simp only [State.riseLink, h, State.endTransaction, State.link_setLink, State.setLink_setLink]

theorem State.riseLink_fetch_live (h : (s.link l).transaction = some (.fetch true)) (hslot : (s.link l).slot = .done r) :
    s.riseLink l = s.setLink l { s.link l with
      slot := if r.data.length + 4 < (s.link l).out.length then .idle else .done r, transaction := none } := by
  have hwhole : (s.link l).fetchedWhole = decide (r.data.length + 4 < (s.link l).out.length) := by
    rw [LinkPort.fetchedWhole, hslot, ← r.length_bytes]
  by_cases hout : r.data.length + 4 < (s.link l).out.length
  · simp only [State.riseLink, h, hwhole, hout, decide_true, Bool.and_self, if_true, State.endTransaction,
      State.link_setLink, State.setLink_setLink]
  · simp only [State.riseLink, h, hwhole, hout, decide_false, Bool.and_false, Bool.false_eq_true, if_false,
      State.endTransaction, ← hslot]

theorem State.riseLink_fetch_dead (h : (s.link l).transaction = some (.fetch false)) :
    s.riseLink l = s.setLink l { s.link l with transaction := none } := by
  simp only [State.riseLink, h, Bool.false_and, Bool.false_eq_true, if_false, State.endTransaction]

theorem State.riseLink_over
    (h : (∃ due, (s.link l).transaction = some (.ignored due)) ∨ ∃ st, (s.link l).transaction = some (.selected st)) :
    s.riseLink l = s.setLink l { s.link l with transaction := none } := by
  rcases h with ⟨due, h⟩ | ⟨st, h⟩ <;> simp only [State.riseLink, h, State.endTransaction]

/-! ## Frames judged (R156) -/

theorem judgeFrame_ok {code len chk : Byte} {ps : List Byte} (hlen : len.toNat = ps.length) (hmax : ps.length ≤ 48)
    (hsum : byteSum (code :: len :: (ps ++ [chk])) = 0) :
    judgeFrame (code :: len :: (ps ++ [chk])) = .ok { code := code, params := ps } := by
  have hlength : (code :: len :: (ps ++ [chk])).length = len.toNat + 3 := by simp [hlen]
  rw [judgeFrame, hlength, if_neg (by omega), if_neg (by omega), if_neg (by omega), if_neg (by simpa using hsum), hlen,
    List.take_left]

theorem judgeFrame_fault {code detail : Byte} (h : FrameFault code rest detail) :
    judgeFrame (code :: rest) = .error detail := by
  obtain ⟨rfl, rfl⟩ | ⟨len, more, rfl, ⟨hmax, rfl⟩ | ⟨hmax, hshort, rfl⟩ | ⟨hmax, hlong, rfl⟩
    | ⟨hmax, hlength, hsum, rfl⟩⟩ := h
  · rfl
  all_goals
    have hreceived : (code :: len :: more).length = more.length + 2 := rfl
    rw [judgeFrame, hreceived]
  · rw [if_pos hmax]
  · rw [if_neg (by omega), if_pos hshort]
  · rw [if_neg (by omega), if_neg (by omega), if_pos hlong]
  · rw [if_neg (by omega), if_neg (by omega), if_neg (by omega), if_pos hsum]

theorem LinkPort.judged_ok {f : Frame} (h : judgeFrame received = .ok f) :
    p.judged received = { p with slot := .queued f, refused := false } := by
  rw [LinkPort.judged, h]

theorem LinkPort.judged_fault {detail : Byte} (h : judgeFrame received = .error detail) :
    p.judged received = { p with slot := .done { status := .frameFault, detail := detail, data := [] } } := by
  rw [LinkPort.judged, h]

/-! ## Parts as rows (log 6, log 10) -/

theorem State.transact_whole (hnone : (s.link l).transaction = none) (hrow : transactionRow b = row) (rest : List Byte) :
    s.transact row l (.whole b rest) = s.wholeTransaction l b rest := by
  rw [State.transact, State.firstOfRow, hnone, decide_eq_true hrow, decide_eq_true rfl, Bool.true_or, Bool.true_or,
    Bool.true_and, if_pos rfl]

theorem State.transact_first (hrow : transactionRow b = row) : s.transact row l (.first b) = s.firstByte l b := by
  rw [State.transact, State.firstOfRow, decide_eq_true hrow, Bool.true_or, if_pos rfl]

theorem State.transact_first_ignored (h : (s.link l).transaction = some (.ignored due)) (b : Byte) :
    s.transact .ignored l (.first b) = s.firstByte l b := by
  rw [State.transact, State.firstOfRow, h]
  exact if_pos (Bool.or_true _)

theorem State.transact_more (h : (s.link l).transaction = some x) (hrow : x.ofRow row = true) (bs : List Byte) :
    s.transact row l (.more bs) = s.moreBytes l bs := by
  rw [State.transact, h, Option.any_some, if_pos hrow]

theorem State.transact_rise (h : (s.link l).transaction = some x) (hrow : x.ofRow row = true) :
    s.transact row l .rise = s.riseLink l := by
  rw [State.transact, h, Option.any_some, if_pos hrow]

end Sys2Proof.Machine
end

section
/-! Whole transactions (R153, R156 to R159): a command frame held, dropped or refused, a FETCH, and an ignored transaction. -/

namespace Sys2Proof.Machine

variable {s : State} {l : Link} {b : Byte} {rest : List Byte} {r : Response}

/-! ## The bytes exchanged and chip select rising -/

/-- The port of a link whose FETCH has sent its status byte (R158, R159). -/
def State.fetchingPort (s : State) (l : Link) (live : Bool) : LinkPort :=
  { s.link l with transaction := some (.fetch live), out := [s.statusByte l] }

/-- The port of a link after an ignored transaction: the status byte and free values were sent (R153, log 5). -/
def State.freePort (s : State) (l : Link) (n : Nat) : LinkPort :=
  { s.link l with
    transaction := none
    out := s.statusByte l :: (List.range n).map fun i => Config.freeByte (s.freeCount + i) }

section whole

variable (hheld : s.resetHeld = false) (hnone : (s.link l).transaction = none)
include hheld hnone

/-- A frame that finds its slot IDLE fills it with its bytes, which chip select rising judges (R156). -/
theorem State.wholeTransaction_frame (hidle : (s.link l).slot = .idle) (hrow : transactionRow b = .frame) (rest : List Byte) :
    s.wholeTransaction l b rest = s.setLink l
      { ({ s.link l with out := s.statusByte l :: List.replicate rest.length 0 } : LinkPort).judged (b :: rest) with
        transaction := none } := by
  rw [State.wholeTransaction, State.firstByte_selectLink hheld hnone, hrow, LinkPort.opened_idle hidle,
    State.moreBytes_frame (received := [b]) (by rw [State.link_setLink]) (by rw [State.link_setLink]), State.link_setLink,
    State.setLink_setLink, State.riseLink_frame (received := b :: rest) (by rw [State.link_setLink])
      (by rw [State.link_setLink]; rfl), State.link_setLink, State.setLink_setLink]
  refine congrArg (s.setLink l) ?_
  rw [LinkPort.judged, LinkPort.judged]
  cases judgeFrame (b :: rest) <;> rfl

/-- A frame that finds its slot taken is refused whole (R157). -/
theorem State.wholeTransaction_refused (htaken : (s.link l).slot ≠ .idle) (hrow : transactionRow b = .frame)
    (rest : List Byte) : s.wholeTransaction l b rest = s.setLink l { s.link l with
      refused := true, transaction := none, out := s.statusByte l :: List.replicate rest.length 0 } := by
  rw [State.wholeTransaction, State.firstByte_selectLink hheld hnone, hrow, LinkPort.opened_taken htaken,
    State.moreBytes_refusedFrame (by rw [State.link_setLink]), State.link_setLink, State.setLink_setLink,
    State.riseLink_refusedFrame (by rw [State.link_setLink]), State.link_setLink, State.setLink_setLink]
  rfl

/-- Every byte of a FETCH is exchanged, live or not by the slot at its first (R159). -/
theorem State.exchanged_fetch {live : Bool} (hlive : (s.link l).slot.isDone = live) (rest : List Byte) :
    ((s.selectLink l).firstByte l 0x80).moreBytes l rest = s.setLink l { s.fetchingPort l live with
      out := s.statusByte l :: (s.fetchingPort l live).fetched live rest.length } := by
  have hrow : transactionRow 0x80 = .fetch := by decide
  have hfirst : (s.selectLink l).firstByte l 0x80 = s.setLink l (s.fetchingPort l live) := by
    rw [State.firstByte_selectLink hheld hnone, hrow, LinkPort.opened, hlive]
    rfl
  rw [hfirst, State.moreBytes_fetch (live := live) (by rw [State.link_setLink]; rfl), State.link_setLink,
    State.setLink_setLink]
  rfl

/-- A FETCH of a DONE slot sends the response and empties the slot when all of it was clocked (R158). -/
theorem State.wholeTransaction_fetch_live (hdone : (s.link l).slot = .done r) {body : List Byte} (hbody : r.Frames body)
    (rest : List Byte) : s.wholeTransaction l 0x80 rest = s.setLink l { s.link l with
      slot := if r.data.length + 4 ≤ rest.length then .idle else .done r
      transaction := none
      out := s.statusByte l :: (body ++ List.replicate rest.length 0).take rest.length } := by
  have hlive : (s.link l).slot.isDone = true := by rw [hdone]; rfl
  have hsent : (s.fetchingPort l true).fetched true rest.length
      = (body ++ List.replicate rest.length 0).take rest.length := LinkPort.fetched_live (by exact hdone) hbody _
  rw [State.wholeTransaction, State.exchanged_fetch hheld hnone hlive, hsent,
    State.riseLink_fetch_live (r := r) (by rw [State.link_setLink]; rfl) (by rw [State.link_setLink]; exact hdone),
    State.link_setLink, State.setLink_setLink]
  refine congrArg (s.setLink l) ?_
  simp [State.fetchingPort]

/-- A FETCH of a slot that is not DONE sends 00h (R159). -/
theorem State.wholeTransaction_fetch_dead (hdead : (s.link l).slot.isDone = false) (rest : List Byte) :
    s.wholeTransaction l 0x80 rest = s.setLink l { s.link l with
      transaction := none, out := s.statusByte l :: List.replicate rest.length 0 } := by
  rw [State.wholeTransaction, State.exchanged_fetch hheld hnone hdead, LinkPort.fetched_dead,
    State.riseLink_fetch_dead (by rw [State.link_setLink]; rfl), State.link_setLink, State.setLink_setLink]
  rfl

/-- An ignored transaction sends the status byte and then free values (R153, log 5). -/
theorem State.wholeTransaction_ignored (hrow : transactionRow b = .ignored) (rest : List Byte) :
    s.wholeTransaction l b rest = { s.setLink l (s.freePort l rest.length) with
      freeCount := s.freeCount + rest.length } := by
  rw [State.wholeTransaction, State.firstByte_selectLink hheld hnone, hrow, LinkPort.opened,
    State.moreBytes_ignored (due := none) (by rw [State.link_setLink]), State.shiftIgnored, State.setLink_resetHeld, hheld,
    if_neg Bool.false_ne_true, State.riseLink_over (.inl ⟨none, ?_⟩), State.shiftFree]
  · cases l <;> rfl
  · rw [State.shiftFree]
    cases l <;> rfl

end whole

/-! ## The rows -/

/-- Settles O45: the frame passes the tests of R156 in the slot that it filled. -/
theorem commandFrameIsQueued : Obligations.CommandFrameIsQueued := by
  unfold Obligations.CommandFrameIsQueued
  intro s l code ps chk hheld hs hnone hidle hlow hhigh hmax hsum
  have hrow := transactionRow_frame hlow hhigh
  have hlen : (byte ps.length).toNat = ps.length := by
    rw [byte, BitVec.toNat_ofNat]
    omega
  have hwhole := (State.transact_whole hnone hrow _).trans
    (State.wholeTransaction_frame hheld hnone hidle hrow (byte ps.length :: (ps ++ [chk])))
  rw [LinkPort.judged_ok (judgeFrame_ok hlen hmax hsum)] at hwhole
  have hout : (byte ps.length :: (ps ++ [chk])).length = ps.length + 2 := by simp
  rw [hout] at hwhole
  exact State.writesSlot_of_transact hs hwhole

/-- Settles O46: what the tests of R156 find, and what a slot that is taken does. -/
theorem commandFrameFaultsAndRefusals : Obligations.CommandFrameFaultsAndRefusals := by
  unfold Obligations.CommandFrameFaultsAndRefusals
  intro s l code rest hheld hs hnone hlow hhigh
  have hrow := transactionRow_frame hlow hhigh
  have htransact := State.transact_whole hnone hrow rest
  refine ⟨fun detail hidle hfault => ?_, fun htaken => ?_⟩
  · rw [State.wholeTransaction_frame hheld hnone hidle hrow, LinkPort.judged_fault (judgeFrame_fault hfault)] at htransact
    exact State.writesSlot_of_transact hs htransact
  · rw [State.wholeTransaction_refused hheld hnone (Slot.ne_idle_of_taken htaken) hrow] at htransact
    exact State.writesSlot_of_transact hs htransact

/-- Settles O47: the slot at the first byte decides what the FETCH sends and leaves. -/
theorem fetchSendsTheResponse : Obligations.FetchSendsTheResponse := by
  unfold Obligations.FetchSendsTheResponse
  intro s l rest hheld hs hnone
  have htransact : s.transact .fetch l (.whole 0x80 rest) = s.wholeTransaction l 0x80 rest :=
    State.transact_whole hnone (by decide) rest
  refine ⟨fun r chk body hdone _ hbody hsum => ?_, fun hslot => ?_⟩
  · have hpadding : (body ++ List.replicate (rest.length - body.length) 0).take rest.length
        = (body ++ List.replicate rest.length 0).take rest.length := by
      simp only [List.take_append, List.take_replicate]
      congr 2
      omega
    rw [State.wholeTransaction_fetch_live hheld hnone hdone ⟨chk, hbody, hsum⟩, ← hpadding] at htransact
    obtain ⟨t, hexec, hslot, hrefused, htransaction, hout, honly, helse⟩ := State.writesSlot_of_transact hs htransact
    exact ⟨t, hexec, hout, hslot, hrefused, htransaction, honly, helse⟩
  · have hdead : (s.link l).slot.isDone = false := by
      obtain h | ⟨f, h⟩ := hslot <;> rw [h] <;> rfl
    rw [State.wholeTransaction_fetch_dead hheld hnone hdead] at htransact
    obtain ⟨t, hexec, hslot, hrefused, htransaction, hout, honly, helse⟩ := State.writesSlot_of_transact hs htransact
    exact ⟨t, hexec, hout, hslot, hrefused, htransaction, honly, helse⟩

/-- No output reads the index of the free values. -/
theorem State.refresh_setFree (u : State) (k : Nat) :
    ({ u with freeCount := k } : State).refresh = { u.refresh with freeCount := k } := rfl

/-- Settles O49: the one port is written, and the index of the free values with it. -/
theorem ignoredTransactionChangesNothing : Obligations.IgnoredTransactionChangesNothing := by
  unfold Obligations.IgnoredTransactionChangesNothing
  intro s l b rest hheld hs hnone hb
  have hrow := transactionRow_ignored hb
  have hexec : exec (.ignoredTransaction l (.whole b rest)) s = .next (s.transact .ignored l (.whole b rest)).refresh := rfl
  rw [State.transact_whole hnone hrow, State.wholeTransaction_ignored hheld hnone hrow, State.refresh_setFree] at hexec
  obtain ⟨hslot, hrefused, htransaction, hout⟩ := s.port_setLink l (s.freePort l rest.length)
  obtain ⟨hother, -, hserved, hrstn, -, hqueue⟩ : s.OnlyLink (s.setLink l (s.freePort l rest.length)).refresh l :=
    State.onlyLink_setLink hs
  obtain ⟨hleases, houtputs, htrip, hsessions, hreset⟩ :
    s.EverythingElseKept (s.setLink l (s.freePort l rest.length)).refresh := State.everythingElseKept_setLink hs
  have hlink (m : Link) : ({ (s.setLink l (s.freePort l rest.length)).refresh with
      freeCount := s.freeCount + rest.length } : State).link m = (s.setLink l (s.freePort l rest.length)).refresh.link m := by
    cases m <;> rfl
  refine ⟨_, hexec, ?_, ?_, ?_, ?_, ?_, ⟨hleases.leases, hleases.channels, hleases.timebases, hleases.carrierA,
    hleases.carrierB⟩, ⟨houtputs.engines, houtputs.pins⟩, ⟨htrip.trip, htrip.supply⟩, hsessions, hserved, hrstn,
    hreset.trans hheld, hqueue, fun m hm => (hlink m).trans (hother m hm)⟩
  · rw [hlink, hslot]; rfl
  · rw [hlink, hrefused]; rfl
  · rw [hlink, htransaction]; rfl
  · rw [hlink, hout]; simp [State.freePort]
  · rw [hlink, hout]; rfl

end Sys2Proof.Machine
end

section
/-! A transaction taken in parts (R153 to R159, log 10): the parts before chip select rises leave the outputs up to date, and
each goes on under the row that the first byte selected, so that one after the other they are the whole transaction. -/

namespace Sys2Proof.Machine

variable {s : State} {l : Link} {row : TransactionRow} {b st : Byte} {x : Transaction} {due : Option Byte}

/-! ## Parts that move no output -/

theorem State.Settled.selectLink (hs : s.Settled) (l : Link) : (s.selectLink l).Settled := by
  cases h : (s.link l).transaction with
  | none =>
    rw [State.selectLink_none h]
    exact hs.setLink rfl rfl
  | some x =>
    simp only [State.selectLink, h]
    exact hs

theorem State.Settled.shiftFree (hs : s.Settled) (l : Link) (n : Nat) : (s.shiftFree l n).Settled := by
  refine State.Settled.setFree (s := s.setLink l _) (hs.setLink ?_ ?_) _
  · rfl
  · rfl

theorem State.Settled.shiftIgnored (hs : s.Settled) (l : Link) (due : Option Byte) (n : Nat) :
    (s.shiftIgnored l due n).Settled := by
  unfold State.shiftIgnored
  split
  · split
    · exact hs
    · exact hs.shiftFree l _
  · exact hs
  · split
    · exact hs.setLink rfl rfl
    · refine State.Settled.shiftFree (s := s.setLink l _) (hs.setLink ?_ ?_) l _
      · rfl
      · rfl

theorem State.Settled.firstByte (hs : s.Settled) (l : Link) (b : Byte) : (s.firstByte l b).Settled := by
  cases h : (s.link l).transaction with
  | none =>
    simp only [State.firstByte, h]
    exact hs
  | some x =>
    cases x with
    | selected st =>
      rw [State.firstByte_selected h]
      exact hs.setLink LinkPort.isDone_opened LinkPort.attention_opened
    | ignored due =>
      rw [State.firstByte_ignored h]
      exact hs.shiftIgnored l due 1
    | frame | refusedFrame | fetch | clear =>
      simp only [State.firstByte, h]
      exact hs

theorem State.Settled.moreBytes (hs : s.Settled) (l : Link) (bs : List Byte) : (s.moreBytes l bs).Settled := by
  cases h : (s.link l).transaction with
  | none =>
    simp only [State.moreBytes, h]
    exact hs
  | some x =>
    cases x with
    | frame =>
      cases hslot : (s.link l).slot with
      | filling received =>
        rw [State.moreBytes_frame h hslot]
        exact hs.setLink (by rw [hslot]; rfl) rfl
      | idle | queued | done =>
        simp only [State.moreBytes, h, hslot]
        exact hs
    | refusedFrame =>
      rw [State.moreBytes_refusedFrame h]
      exact hs.setLink rfl rfl
    | fetch live =>
      rw [State.moreBytes_fetch h]
      exact hs.setLink rfl rfl
    | clear flag =>
      rw [State.moreBytes_clear h]
      exact hs.setLink rfl rfl
    | ignored due =>
      rw [State.moreBytes_ignored h]
      exact hs.shiftIgnored l due _
    | selected st =>
      simp only [State.moreBytes, h]
      exact hs

/-! ## Parts under the row of the first byte -/

/-- A transaction whose first byte has come, which goes on under a row whatever bytes follow. -/
def Transaction.Continues (x : Transaction) (row : TransactionRow) : Prop :=
  match x with
  | .selected _ => False
  | .ignored _ => True
  | .frame => row = .frame
  | .refusedFrame => row = .frame
  | .fetch _ => row = .fetch
  | .clear _ => row = .clear

theorem Transaction.Continues.ofRow (h : x.Continues row) : x.ofRow row = true := by
  cases x with
  | selected st => exact h.elim
  | ignored due => rfl
  | frame | refusedFrame | fetch => exact decide_eq_true h
  | clear flag => rw [Transaction.ofRow, decide_eq_true (show row = .clear from h), Bool.true_or]

/-- A link has a transaction in progress that goes on under a row. -/
def State.Underway (s : State) (l : Link) (row : TransactionRow) : Prop :=
  ∃ x, (s.link l).transaction = some x ∧ x.Continues row

theorem State.link_shiftFree (l : Link) (n : Nat) : (s.shiftFree l n).link l = { s.link l with
    out := (s.link l).out ++ (List.range n).map fun i => Config.freeByte (s.freeCount + i) } := by
  cases l <;> rfl

theorem State.underway_shiftIgnored (h : (s.link l).transaction = some (.ignored due)) (n : Nat) :
    (s.shiftIgnored l due n).Underway l row := by
  unfold State.shiftIgnored
  split
  · split
    · exact ⟨_, h, trivial⟩
    · exact ⟨.ignored none, by rw [State.link_shiftFree]; exact h, trivial⟩
  · exact ⟨_, h, trivial⟩
  · split
    · exact ⟨.ignored none, by rw [State.link_setLink], trivial⟩
    · exact ⟨.ignored none, by rw [State.link_shiftFree, State.link_setLink], trivial⟩

theorem LinkPort.opened_continues (p : LinkPort) (row : TransactionRow) (b st : Byte) :
    ∃ x, (p.opened row b st).transaction = some x ∧ x.Continues row := by
  cases row with
  | frame =>
    by_cases h : p.slot = .idle
    · exact ⟨.frame, by rw [LinkPort.opened_idle h], rfl⟩
    · exact ⟨.refusedFrame, by rw [LinkPort.opened_taken h], rfl⟩
  | fetch => exact ⟨.fetch p.slot.isDone, rfl, rfl⟩
  | clear => exact ⟨.clear none, rfl, rfl⟩
  | ignored => exact ⟨.ignored none, rfl, trivial⟩

/-- The first byte selects its row, and a transaction that a held reset ignores goes on under any. -/
theorem State.underway_firstByte (hnone : (s.link l).transaction = none) (hrow : transactionRow b = row) :
    ((s.selectLink l).firstByte l b).Underway l row := by
  have hlink : ((s.selectLink l).link l).transaction
      = some (if s.resetHeld then .ignored (some (s.statusByte l)) else .selected (s.statusByte l)) := by
    rw [State.selectLink_none hnone, State.link_setLink]
  cases hheld : s.resetHeld with
  | true =>
    rw [hheld, if_pos rfl] at hlink
    rw [State.firstByte_ignored hlink]
    exact State.underway_shiftIgnored hlink 1
  | false =>
    rw [hheld, if_neg Bool.false_ne_true] at hlink
    rw [State.firstByte_selected hlink, hrow]
    obtain ⟨x, hx, hcontinues⟩ := ((s.selectLink l).link l).opened_continues row b (s.statusByte l)
    exact ⟨x, by rw [State.link_setLink, hx], hcontinues⟩

theorem State.Underway.moreBytes (h : s.Underway l row) (bs : List Byte) : (s.moreBytes l bs).Underway l row := by
  obtain ⟨x, hx, hcontinues⟩ := h
  cases x with
  | selected st => exact hcontinues.elim
  | frame =>
    cases hslot : (s.link l).slot with
    | filling received =>
      rw [State.moreBytes_frame hx hslot]
      exact ⟨.frame, by rw [State.link_setLink]; exact hx, hcontinues⟩
    | idle | queued | done =>
      simp only [State.moreBytes, hx, hslot]
      exact ⟨.frame, hx, hcontinues⟩
  | refusedFrame =>
    rw [State.moreBytes_refusedFrame hx]
    exact ⟨.refusedFrame, by rw [State.link_setLink]; exact hx, hcontinues⟩
  | fetch live =>
    rw [State.moreBytes_fetch hx]
    exact ⟨.fetch live, by rw [State.link_setLink]; exact hx, hcontinues⟩
  | clear flag =>
    rw [State.moreBytes_clear hx]
    exact ⟨.clear (flag.or bs.head?), by rw [State.link_setLink], hcontinues⟩
  | ignored due =>
    rw [State.moreBytes_ignored hx]
    exact State.underway_shiftIgnored hx _

theorem State.Underway.transact_more (h : s.Underway l row) (bs : List Byte) :
    s.transact row l (.more bs) = s.moreBytes l bs := by
  obtain ⟨x, hx, hcontinues⟩ := h
  exact State.transact_more hx hcontinues.ofRow bs

theorem State.Underway.transact_rise (h : s.Underway l row) : s.transact row l .rise = s.riseLink l := by
  obtain ⟨x, hx, hcontinues⟩ := h
  exact State.transact_rise hx hcontinues.ofRow

theorem exec_row_settled {moment : Moment} {t : State} (h : s.transact row l moment = t) (ht : t.Settled) :
    exec (rowInstr row l moment) s = .next t := by
  rw [exec_row, h, show t.refresh = t from ht]

/-- The parts of a transaction, one after the other, are the whole of it. -/
theorem exec_parts (hs : s.Settled) (hnone : (s.link l).transaction = none) (hrow : transactionRow b = row)
    (rest : List Byte) :
    ∃ s1 s2 s3 t, exec (rowInstr row l .select) s = .next s1 ∧ exec (rowInstr row l (.first b)) s1 = .next s2
      ∧ exec (rowInstr row l (.more rest)) s2 = .next s3 ∧ exec (rowInstr row l .rise) s3 = .next t
      ∧ exec (rowInstr row l (.whole b rest)) s = .next t := by
  have hselected := hs.selectLink l
  have hfirst := hselected.firstByte l b
  have hunderway := State.underway_firstByte hnone hrow
  refine ⟨_, _, _, (s.wholeTransaction l b rest).refresh, exec_row_settled rfl hselected,
    exec_row_settled (State.transact_first hrow) hfirst,
    exec_row_settled (hunderway.transact_more rest) (hfirst.moreBytes l rest), ?_, ?_⟩
  · rw [exec_row, (hunderway.moreBytes rest).transact_rise]
    rfl
  · rw [exec_row, State.transact_whole hnone hrow]

/-! ## Each part in its own terms -/

/-- The status byte still due is sent with the first byte after the release (R153, R168). -/
theorem State.firstByte_due (hheld : s.resetHeld = false) (h : (s.link l).transaction = some (.ignored (some st))) (b : Byte) :
    s.firstByte l b = s.setLink l { s.link l with transaction := some (.ignored none), out := (s.link l).out ++ [st] } := by
  rw [State.firstByte_ignored h, State.shiftIgnored, hheld, if_neg Bool.false_ne_true, State.shiftFree, State.link_setLink,
    State.setLink_setLink]
  simp only [List.range_zero, List.map_nil, List.append_nil]
  cases l <;> rfl

section parts

variable (hs : s.Settled)
include hs

/-- Chip select falls: the status byte is taken as it stands (R154). -/
theorem State.writes_select (hnone : (s.link l).transaction = none) (row : TransactionRow) :
    s.Writes (rowInstr row l .select) l { s.link l with
      transaction := some (if s.resetHeld then .ignored (some (s.statusByte l)) else .selected (s.statusByte l))
      out := [] } :=
  State.writes_of_transact hs (State.selectLink_none hnone) rfl rfl

/-- The first byte of a selected transaction opens the port under its row (R153). -/
theorem State.writes_first (hst : (s.link l).transaction = some (.selected st)) (hrow : transactionRow b = row) :
    s.Writes (rowInstr row l (.first b)) l ((s.link l).opened row b st) := by
  refine State.writes_of_transact hs ((State.transact_first hrow).trans ?_) LinkPort.isDone_opened LinkPort.attention_opened
  rw [State.firstByte_selected hst, hrow]

theorem State.writes_first_due (hheld : s.resetHeld = false) (hdue : (s.link l).transaction = some (.ignored (some st)))
    (b : Byte) : s.Writes (.ignoredTransaction l (.first b)) l
      { s.link l with transaction := some (.ignored none), out := (s.link l).out ++ [st] } :=
  State.writes_of_transact (row := .ignored) hs
    ((State.transact_first_ignored hdue b).trans (State.firstByte_due hheld hdue b)) rfl rfl

/-- A slot that fills keeps each further byte (R156). -/
theorem State.writes_more_frame {received : List Byte} (hframe : (s.link l).transaction = some .frame)
    (hslot : (s.link l).slot = .filling received) (bs : List Byte) : s.Writes (.commandFrame l (.more bs)) l
      { s.link l with slot := .filling (received ++ bs), out := (s.link l).out ++ List.replicate bs.length 0 } :=
  State.writes_of_transact (row := .frame) hs
    ((State.transact_more hframe rfl bs).trans (State.moreBytes_frame hframe hslot bs)) (by rw [hslot]; rfl) rfl

theorem State.writes_rise_queued {received : List Byte} {f : Frame} (hframe : (s.link l).transaction = some .frame)
    (hslot : (s.link l).slot = .filling received) (hjudged : judgeFrame received = .ok f) :
    s.Writes (.commandFrame l .rise) l { s.link l with slot := .queued f, refused := false, transaction := none } := by
  have hrise := (State.transact_rise (row := .frame) hframe rfl).trans (State.riseLink_frame hframe hslot)
  rw [LinkPort.judged_ok hjudged] at hrise
  exact State.writes_of_transact hs hrise (by rw [hslot]; rfl) rfl

theorem State.writesSlot_rise_fault {received : List Byte} {detail : Byte} (hframe : (s.link l).transaction = some .frame)
    (hslot : (s.link l).slot = .filling received) (hjudged : judgeFrame received = .error detail) :
    s.WritesSlot (.commandFrame l .rise) l { s.link l with
      slot := .done { status := .frameFault, detail := detail, data := [] }, transaction := none } := by
  have hrise := (State.transact_rise (row := .frame) hframe rfl).trans (State.riseLink_frame hframe hslot)
  rw [LinkPort.judged_fault hjudged] at hrise
  exact State.writesSlot_of_transact hs hrise

theorem State.writes_more_fetch {live : Bool} (hfetch : (s.link l).transaction = some (.fetch live)) (bs : List Byte) :
    s.Writes (.fetch l (.more bs)) l
      { s.link l with out := (s.link l).out ++ (s.link l).fetched live bs.length } :=
  State.writes_of_transact (row := .fetch) hs
    ((State.transact_more hfetch rfl bs).trans (State.moreBytes_fetch hfetch bs)) rfl rfl

theorem State.writesSlot_rise_fetch {r : Response} (hlive : (s.link l).transaction = some (.fetch true))
    (hdone : (s.link l).slot = .done r) : s.WritesSlot (.fetch l .rise) l { s.link l with
      slot := if r.data.length + 4 < (s.link l).out.length then .idle else .done r, transaction := none } :=
  State.writesSlot_of_transact (row := .fetch) hs
    ((State.transact_rise hlive rfl).trans (State.riseLink_fetch_live hlive hdone))

theorem State.writes_rise_fetch_dead (hdead : (s.link l).transaction = some (.fetch false)) :
    s.Writes (.fetch l .rise) l { s.link l with transaction := none } :=
  State.writes_of_transact (row := .fetch) hs ((State.transact_rise hdead rfl).trans (State.riseLink_fetch_dead hdead)) rfl rfl

theorem State.writes_rise_refused (hrefused : (s.link l).transaction = some .refusedFrame) :
    s.Writes (.commandFrame l .rise) l { s.link l with transaction := none, refused := true } :=
  State.writes_of_transact (row := .frame) hs
    ((State.transact_rise hrefused rfl).trans (State.riseLink_refusedFrame hrefused)) rfl rfl

/-- A transaction that is ignored, or whose first byte has not come, ends under any row with nothing done (log 10). -/
theorem State.writes_rise_over
    (hover : (∃ due, (s.link l).transaction = some (.ignored due)) ∨ ∃ st, (s.link l).transaction = some (.selected st))
    (row : TransactionRow) : s.Writes (rowInstr row l .rise) l { s.link l with transaction := none } := by
  have hrise : s.transact row l .rise = s.riseLink l := by
    obtain ⟨due, h⟩ | ⟨st, h⟩ := hover <;> exact State.transact_rise h rfl
  exact State.writes_of_transact hs (hrise.trans (State.riseLink_over hover)) rfl rfl

end parts

/-- Settles O50: the parts are the whole, and each writes the one port as its own rule says. -/
theorem transactionsMayBeTakenInParts : Obligations.TransactionsMayBeTakenInParts := by
  unfold Obligations.TransactionsMayBeTakenInParts
  intro s l hs
  refine ⟨fun hnone row => ⟨State.writes_select hs hnone row, fun b rest hrow => exec_parts hs hnone hrow rest⟩,
    fun st hheld hst => ⟨fun b hlow hhigh => ?_, ?_, ?_, fun b hb => ?_⟩,
    fun st b hheld hdue => State.writes_first_due hs hheld hdue b, fun received hslot hframe => ?_,
    fun r hdone hlive _ _ => ⟨fun body chk bs hbody hsum => ?_, State.writesSlot_rise_fetch hs hlive hdone⟩,
    fun rest hdead => ⟨?_, State.writes_rise_fetch_dead hs hdead⟩, fun hrefused => State.writes_rise_refused hs hrefused,
    fun hover row => State.writes_rise_over hs hover row⟩
  · have hopened := State.writes_first hs hst (transactionRow_frame hlow hhigh)
    refine ⟨fun hidle => ?_, fun htaken => ?_⟩
    · rwa [LinkPort.opened_idle hidle] at hopened
    · rwa [LinkPort.opened_taken (Slot.ne_idle_of_taken htaken)] at hopened
  · obtain ⟨t, hexec, hopened⟩ := State.writes_first (b := 0x80) (row := .fetch) hs hst (by decide)
    exact ⟨t, _, hexec, Slot.isDone_iff _, hopened⟩
  · exact State.writes_first (b := 0xC0) (row := .clear) hs hst (by decide)
  · exact State.writes_first hs hst (transactionRow_ignored hb)
  · refine ⟨State.writes_more_frame hs hframe hslot, fun code len ps chk hreceived hlen hmax hsum => ?_,
      fun code rest detail hreceived hfault => ?_⟩
    · subst hreceived
      exact State.writes_rise_queued hs hframe hslot (judgeFrame_ok hlen hmax hsum)
    · subst hreceived
      exact State.writesSlot_rise_fault hs hframe hslot (judgeFrame_fault hfault)
  · have hmore := State.writes_more_fetch hs hlive bs
    rwa [LinkPort.fetched_live hdone ⟨chk, hbody, hsum⟩] at hmore
  · have hmore := State.writes_more_fetch hs hdead rest
    rwa [LinkPort.fetched_dead] at hmore

end Sys2Proof.Machine
end

section
/-! The queue of commands waiting (log 1): what one step does, by the queue's two shapes. -/

namespace Sys2Proof.Machine

theorem step_of_pending_cons {s : State} {c : Instr} {rest : List Instr} (hqueue : s.pending = c :: rest) :
    step s = exec c { s with pending := rest } := by
  simp only [step, hqueue]

theorem step_of_pending_nil {s : State} (hqueue : s.pending = []) : step s = .next s := by
  simp only [step, hqueue]

/-- Settles O1, by the two shapes of the queue. -/
theorem stepTakesTheFrontCommand : Obligations.StepTakesTheFrontCommand := by
  unfold Obligations.StepTakesTheFrontCommand
  exact ⟨fun _ _ _ hqueue => step_of_pending_cons hqueue, fun _ hqueue => step_of_pending_nil hqueue⟩

end Sys2Proof.Machine
end
